-- ==== Sys2Proof/Word.lean ====
section
/-! DEFINITION. The word types of CORE (spec/00_scope.md R9, R10) and the names its index tables choose among
(spec/30_encoding.md R92). -/

namespace Sys2Proof

/-- `u8` of R10: the data width of CORE (R9). -/
abbrev Byte := BitVec 8

/-- `u16` of R10: the width of an address, of PC and of SP (R9). -/
abbrev Word := BitVec 16

/-- Table `r` of R92: an 8-bit operand. `atHl` is index 6, the memory byte at HL, and no register. -/
inductive R8 where
  | b | c | d | e | h | l | atHl | a
deriving DecidableEq, Repr

/-- Table `rp` of R92: the pairs of LD, ADD HL, INC, DEC. -/
inductive Rp where
  | bc | de | hl | sp
deriving DecidableEq, Repr

/-- Table `rp2` of R92: the pairs of PUSH and POP. -/
inductive Rp2 where
  | bc | de | hl | af
deriving DecidableEq, Repr

/-- Table `cc` of R92: the conditions of R221. -/
inductive Cond where
  | nz | z | nc | c
deriving DecidableEq, Repr

/-- Table `alu` of R92: the eight accumulator operations. -/
inductive AluOp where
  | add | adc | sub | sbc | and | xor | or | cp
deriving DecidableEq, Repr

/-- Table `rot` of R92: the rotates, shifts and SWAP. -/
inductive RotOp where
  | rlc | rrc | rl | rr | sla | sra | swap | srl
deriving DecidableEq, Repr

/-- The four indirect forms of block 0, z = 2 (R95): `(BC)`, `(DE)`, `(HL+)`, `(HL-)` (R183, R184). -/
inductive Ind where
  | bc | de | hlInc | hlDec
deriving DecidableEq, Repr

/-- The five interrupt lines, in the order of R402 (bit 0 first). -/
inductive Interrupt where
  | vblank | lcdStat | timer | serial | joypad
deriving DecidableEq, Repr

end Sys2Proof
end

