-- ==== Sys2Proof/Machine/Bits.lean ====
section
/-! DEFINITION. Halves of words, byte order and sign extension (spec/00_scope.md R10; spec/10_state.md R22). -/

namespace Sys2Proof.Machine

/-- `v[15:8]`, the high half (R10, R22). -/
def hiByte (v : Word) : Byte := v.extractLsb' 8 8

/-- `v[7:0]`, the low half (R10, R22). -/
def loByte (v : Word) : Byte := v.extractLsb' 0 8

/-- `{hi, lo}` of R10: the pair with `hi` in the more significant half (R22). -/
def pair (hi lo : Byte) : Word := hi ++ lo

/-- `sext_16(e)` of R10. -/
def sext16 (e : Byte) : Word := e.signExtend 16

/-- `{0xFF, a}`: "High-memory forms force the resolved address's upper byte to 0xFF" (R185, R186). -/
def highPage (a : Byte) : Word := pair 0xFF#8 a

/-- One bit as a byte, to be added as a carry (R134, R135). -/
def bitByte (x : Bool) : Byte := if x then 1#8 else 0#8

end Sys2Proof.Machine
end

