-- ==== Sys2Proof/Config.lean ====
section
/-! DEFINITION. What is fixed for one CORE and what the spec leaves to the implementation (spec/00_scope.md R9;
spec/92_eei_decisions.md, "Open parameters"). -/

namespace Sys2Proof.Config

/-- `IE_ADDR` of R7 and R9: the address of the interrupt-enable byte. -/
def ieAddr : Word := 0xFFFF#16

/-- `IF_ADDR` of R7 and R9: the address of the interrupt-flag byte. -/
def ifAddr : Word := 0xFF0F#16

/-- `HALT_BUG` of R293 (decision D12, behaviour U11): a parameter of the model, left open by the spec, so it has no
body here: every claim holds for both of its values. DESIGN CHOICE, log 5; safe. -/
opaque haltBug : Bool

end Sys2Proof.Config
end

