-- ==== Sys2Proof/Machine/State.lean ====
section
/-! DEFINITION. The state of CORE (spec/10_state.md R20), the memory behind its port, the environment's script, the
trace it emits, and the reasons a step can stop. -/

namespace Sys2Proof.Machine

/-- The run state of the sequencer between steps (R33). -/
inductive RunState where
  | running | halted | stopped | locked
deriving DecidableEq, Repr

/-- One entry of the trace, one per machine cycle (R219): `Read(addr, value)`, `Write(addr, value)` or `Idle`. -/
inductive BusCycle where
  | read (addr : Word) (value : Byte)
  | write (addr : Word) (value : Byte)
  | idle
deriving DecidableEq, Repr

/-- One thing the environment can do during a tick (R8): change a memory byte; request an interrupt, which sets that
line's bit of IF (R35, R414); assert reset (R450). DESIGN CHOICE, log 1 and log 4. -/
inductive EnvAction where
  | write (addr : Word) (value : Byte)
  | request (line : Interrupt)
  | reset
deriving DecidableEq, Repr

/-- What the environment does in one machine cycle, in order. -/
abbrev EnvCycle := List EnvAction

/-- The memory behind the port: address and byte pairs, addresses strictly rising, none with the value an unlisted
address reads as (`Memory.wf`). -/
abbrev Memory := List Host.Cell

/-- The state of the machine. `a` to `ir`, `ime` are the register file, `eiPending` and `run` the sequencer's (R20);
`mem` holds the environment's 65,536 bytes, IE and IF among them (R35, R36); `trace` is CORE's output, newest entry
first (R219); `env` and `resetLine` are the model's own inputs (log 1, log 4). -/
structure State where
  a : Byte
  f : Byte
  b : Byte
  c : Byte
  d : Byte
  e : Byte
  h : Byte
  l : Byte
  sp : Word
  pc : Word
  ir : Byte
  ime : Bool
  eiPending : Bool
  run : RunState
  mem : Memory
  env : List EnvCycle
  resetLine : Bool
  trace : List BusCycle
deriving DecidableEq, Repr

/-- Why a step does not happen. Both are raised by `step` alone, never by an instruction's meaning. -/
inductive Fault where
  /-- The core is Stopped: "there is no step" (R223). Raised by `step` in the run state Stopped when no reset is coming.
  Safe: the machine goes no further than the spec lets it. -/
  | stopped
  /-- The core is Locked: it "has no further step" (R401, R223). Raised by `step` in the run state Locked when no reset
  is coming. Safe: the machine goes no further than the spec lets it. -/
  | lockedUp
deriving DecidableEq, Repr

/-- Instructions without a meaning. -/
inductive Refusal where
  /-- The instruction named has no meaning yet. Raised by an arm of `exec` alone; no arm raises it in this model. Safe. -/
  | notModelled (mnemonic : String)
deriving DecidableEq, Repr

/-- The machine right after reset (R41, R451). PC, IR, IME, `ei_pending`, `run` and F[3:0] are the spec's.
DESIGN CHOICE, unsafe: A, F[7:4], B, C, D, E, H, L, SP are 0, since the spec gives them no value (log 3); nothing is
listed in memory (log 2). The model's own fields start empty (log 1, log 4, log 11). -/
def State.reset : State where
  a := 0x00#8
  f := 0x00#8
  b := 0x00#8
  c := 0x00#8
  d := 0x00#8
  e := 0x00#8
  h := 0x00#8
  l := 0x00#8
  sp := 0x0000#16
  pc := 0x0000#16
  ir := 0x00#8
  ime := false
  eiPending := false
  run := .running
  mem := []
  env := []
  resetLine := false
  trace := []

/-- The launch state `L0100` of R42, "a state a test harness sets, not a reset state"; the registers a vector leaves
out are 0 there. -/
def State.launch : State := { State.reset with pc := 0x0100#16 }

end Sys2Proof.Machine
end

