-- ==== Sys2Proof/Machine/Update.lean ====
section
/-! DEFINITION. The named updates of the state, one per field, and the register pairs (spec/10_state.md R22 to R28). All
writes of the model go through these. -/

namespace Sys2Proof.Machine

def State.setA (s : State) (v : Byte) : State := { s with a := v }
/-- "Every write of F or AF stores `value & 0xF0` into F" (R28). -/
def State.setF (s : State) (v : Byte) : State := { s with f := v &&& 0xF0#8 }
def State.setB (s : State) (v : Byte) : State := { s with b := v }
def State.setC (s : State) (v : Byte) : State := { s with c := v }
def State.setD (s : State) (v : Byte) : State := { s with d := v }
def State.setE (s : State) (v : Byte) : State := { s with e := v }
def State.setH (s : State) (v : Byte) : State := { s with h := v }
def State.setL (s : State) (v : Byte) : State := { s with l := v }
def State.setSp (s : State) (v : Word) : State := { s with sp := v }
def State.setPc (s : State) (v : Word) : State := { s with pc := v }
def State.setIr (s : State) (v : Byte) : State := { s with ir := v }
def State.setIme (s : State) (v : Bool) : State := { s with ime := v }
def State.setEiPending (s : State) (v : Bool) : State := { s with eiPending := v }
def State.setRun (s : State) (v : RunState) : State := { s with run := v }
def State.setMem (s : State) (v : Memory) : State := { s with mem := v }
def State.setEnv (s : State) (v : List EnvCycle) : State := { s with env := v }
def State.setResetLine (s : State) (v : Bool) : State := { s with resetLine := v }
def State.setTrace (s : State) (v : List BusCycle) : State := { s with trace := v }

/-- `AF = {A, F}` (R22). -/
def State.af (s : State) : Word := pair s.a s.f
/-- `BC = {B, C}` (R22). -/
def State.bc (s : State) : Word := pair s.b s.c
/-- `DE = {D, E}` (R22). -/
def State.de (s : State) : Word := pair s.d s.e
/-- `HL = {H, L}` (R22). -/
def State.hl (s : State) : Word := pair s.h s.l

/-- Writing AF stores `v & 0xFFF0` (R11, R28). -/
def State.setAF (s : State) (v : Word) : State := (s.setA (hiByte v)).setF (loByte v)
/-- "writing a pair writes its two halves" (R22). -/
def State.setBC (s : State) (v : Word) : State := (s.setB (hiByte v)).setC (loByte v)
/-- "writing a pair writes its two halves" (R22). -/
def State.setDE (s : State) (v : Word) : State := (s.setD (hiByte v)).setE (loByte v)
/-- "writing a pair writes its two halves" (R22). -/
def State.setHL (s : State) (v : Word) : State := (s.setH (hiByte v)).setL (loByte v)

end Sys2Proof.Machine
end

