-- ==== Sys2Proof/Machine/Flags.lean ====
section
/-! DEFINITION. The ALU: every operation's result and flag changeset (spec/40_alu.md R130 to R160), the flags of F
(spec/10_state.md R28), and the conditions (spec/42_sequencer.md R221). -/

namespace Sys2Proof.Machine

/-- A flag changeset: "a partial mapping from Flag to boolean — only flags an operation actually defines are present"
(R130). -/
structure FlagChange where
  z : Option Bool := none
  n : Option Bool := none
  h : Option Bool := none
  c : Option Bool := none
deriving DecidableEq, Repr

/-- Flag Z, bit 7 of F (R28). -/
def State.flagZ (s : State) : Bool := s.f.getLsbD 7
/-- Flag N, bit 6 of F (R28). -/
def State.flagN (s : State) : Bool := s.f.getLsbD 6
/-- Flag H, bit 5 of F (R28). -/
def State.flagH (s : State) : Bool := s.f.getLsbD 5
/-- Flag C, bit 4 of F (R28). -/
def State.flagC (s : State) : Bool := s.f.getLsbD 4

/-- Write the bit that `mask` selects, or leave it. -/
def putFlag (mask : Byte) (x : Option Bool) (f : Byte) : Byte :=
  match x with
  | none => f
  | some true => f ||| mask
  | some false => f &&& ~~~mask

/-- `apply(changeset)` on the byte F (R131). -/
def FlagChange.applyTo (ch : FlagChange) (f : Byte) : Byte :=
  putFlag 0x10#8 ch.c (putFlag 0x20#8 ch.h (putFlag 0x40#8 ch.n (putFlag 0x80#8 ch.z f)))

/-- `apply(changeset)` (R131): the flags present are written, the others stay, F[3:0] is 0. -/
def State.applyFlags (s : State) (ch : FlagChange) : State := s.setF (ch.applyTo s.f)

/-- `cond(c)` (R221). -/
def State.cond (s : State) : Cond → Bool
  | .nz => !s.flagZ
  | .z => s.flagZ
  | .nc => !s.flagC
  | .c => s.flagC

namespace Alu

/-- `majority` of R133. -/
def majority (x y z : Bool) : Bool := (x && y) || (x && z) || (y && z)

/-- `c_i` of R133: the carry out of bit `i` of `a + b + ci`. -/
def carryOut (a b : Byte) (ci : Bool) : Nat → Bool
  | 0 => majority (a.getLsbD 0) (b.getLsbD 0) ci
  | i + 1 => majority (a.getLsbD (i + 1)) (b.getLsbD (i + 1)) (carryOut a b ci i)

/-- The byte whose bit `i` is `f i`. -/
def ofBits (f : Nat → Bool) : Byte :=
  BitVec.ofBool (f 7) ++ BitVec.ofBool (f 6) ++ BitVec.ofBool (f 5) ++ BitVec.ofBool (f 4) ++ BitVec.ofBool (f 3) ++
    BitVec.ofBool (f 2) ++ BitVec.ofBool (f 1) ++ BitVec.ofBool (f 0)

/-- `carries(a, b, ci)`: the carry vector (R133). -/
def carries (a b : Byte) (ci : Bool) : Byte := ofBits (carryOut a b ci)

/-- `Z = (result == 0)`. -/
def isZero (r : Byte) : Bool := decide (r = 0#8)

/-- `alu.adc(a, b, Cin)`; `alu.add` is the case `Cin = 0` (R134). -/
def adc (a b : Byte) (ci : Bool) : Byte × FlagChange :=
  let r := a + b + bitByte ci
  let cv := carries a b ci
  (r, { z := some (isZero r), n := some false, h := some (cv.getLsbD 3), c := some (cv.getLsbD 7) })

/-- `alu.add(a, b)` (R134). -/
def add (a b : Byte) : Byte × FlagChange := adc a b false

/-- `alu.sbc(a, b, Cin)`: the addition of the complement, the carry vector complemented (R135). -/
def sbc (a b : Byte) (bi : Bool) : Byte × FlagChange :=
  let r := a + ~~~b + bitByte (!bi)
  let bv := ~~~(carries a (~~~b) (!bi))
  (r, { z := some (isZero r), n := some true, h := some (bv.getLsbD 3), c := some (bv.getLsbD 7) })

/-- `alu.sub(a, b)` (R135). -/
def sub (a b : Byte) : Byte × FlagChange := sbc a b false

/-- `alu.inc(a)`: `add(a, 1)` "with the Carry entry removed" (R136). -/
def inc (a : Byte) : Byte × FlagChange := ((add a 1#8).1, { (add a 1#8).2 with c := none })

/-- `alu.dec(a)`: `sub(a, 1)` "with the Carry entry removed" (R137). -/
def dec (a : Byte) : Byte × FlagChange := ((sub a 1#8).1, { (sub a 1#8).2 with c := none })

/-- `alu.and(a, b)` (R138). -/
def and (a b : Byte) : Byte × FlagChange :=
  (a &&& b, { z := some (isZero (a &&& b)), n := some false, h := some true, c := some false })

/-- `alu.or(a, b)` (R139). -/
def or (a b : Byte) : Byte × FlagChange :=
  (a ||| b, { z := some (isZero (a ||| b)), n := some false, h := some false, c := some false })

/-- `alu.xor(a, b)` (R140). -/
def xor (a b : Byte) : Byte × FlagChange :=
  (a ^^^ b, { z := some (isZero (a ^^^ b)), n := some false, h := some false, c := some false })

/-- The changeset of a rotate or shift: Z of the result, N = 0, H = 0, C as given (40_alu.md section 4). -/
def shifted (r : Byte) (c : Bool) : Byte × FlagChange :=
  (r, { z := some (isZero r), n := some false, h := some false, c := some c })

/-- `alu.rlc(a)`: `{a[6:0], a[7]}`, C = a[7] (R141). -/
def rlc (a : Byte) : Byte × FlagChange := shifted (a.extractLsb' 0 7 ++ a.extractLsb' 7 1) (a.getLsbD 7)

/-- `alu.rrc(a)`: `{a[0], a[7:1]}`, C = a[0] (R142). -/
def rrc (a : Byte) : Byte × FlagChange := shifted (a.extractLsb' 0 1 ++ a.extractLsb' 1 7) (a.getLsbD 0)

/-- `alu.rl(a, Cin)`: `{a[6:0], Cin}`, C = a[7] (R143). -/
def rl (a : Byte) (ci : Bool) : Byte × FlagChange := shifted (a.extractLsb' 0 7 ++ BitVec.ofBool ci) (a.getLsbD 7)

/-- `alu.rr(a, Cin)`: `{Cin, a[7:1]}`, C = a[0] (R144). -/
def rr (a : Byte) (ci : Bool) : Byte × FlagChange := shifted (BitVec.ofBool ci ++ a.extractLsb' 1 7) (a.getLsbD 0)

/-- `alu.sla(a)`: `{a[6:0], 0}`, C = a[7] (R145). -/
def sla (a : Byte) : Byte × FlagChange := shifted (a.extractLsb' 0 7 ++ 0#1) (a.getLsbD 7)

/-- `alu.sra(a)`: `{a[7], a[7:1]}`, C = a[0] (R146). -/
def sra (a : Byte) : Byte × FlagChange := shifted (a.extractLsb' 7 1 ++ a.extractLsb' 1 7) (a.getLsbD 0)

/-- `alu.srl(a)`: `{0, a[7:1]}`, C = a[0] (R147). -/
def srl (a : Byte) : Byte × FlagChange := shifted (0#1 ++ a.extractLsb' 1 7) (a.getLsbD 0)

/-- `alu.swap(a)`: `{a[3:0], a[7:4]}`, C = 0 (R148). -/
def swap (a : Byte) : Byte × FlagChange := shifted (a.extractLsb' 0 4 ++ a.extractLsb' 4 4) false

/-- The accumulator rotates "force `Z = 0` whatever the result" (R149). -/
def accRotate (r : Byte × FlagChange) : Byte × FlagChange :=
  (r.1, { z := some false, n := some false, h := some false, c := r.2.c })

/-- `alu.test(n, a)`: Z = (a[n] == 0), N = 0, H = 1, C absent (R150, conflict C2). -/
def test (n : Nat) (a : Byte) : FlagChange :=
  { z := some (!a.getLsbD n), n := some false, h := some true }

/-- `alu.res(n, a) = a & ~(1 << n)`, empty changeset (R151). -/
def res (n : Nat) (a : Byte) : Byte := a &&& ~~~(1#8 <<< n)

/-- `alu.set(n, a) = a | (1 << n)`, empty changeset (R151). -/
def set (n : Nat) (a : Byte) : Byte := a ||| (1#8 <<< n)

/-- `alu.cpl(a)`: `~a`, N = 1, H = 1 (R152). -/
def cpl (a : Byte) : Byte × FlagChange := (~~~a, { n := some true, h := some true })

/-- `alu.scf()`: N = 0, H = 0, C = 1 (R153). -/
def scf : FlagChange := { n := some false, h := some false, c := some true }

/-- `alu.ccf(Cin)`: N = 0, H = 0, C = 1 - Cin (R154). -/
def ccf (ci : Bool) : FlagChange := { n := some false, h := some false, c := some (!ci) }

/-- The addition arm of DAA's high adjustment: `c == 1 or r > 0x99` (R155). -/
def daaHigh (a : Byte) (c : Bool) : Bool := c || decide (0x99#8 < a)

/-- The addition arm of DAA's low adjustment: `Hin == 1 or (r & 0x0F) > 9` (R155). -/
def daaLow (r : Byte) (h : Bool) : Bool := h || decide (9#8 < (r &&& 0x0F#8))

/-- `alu.daa(a, Nin, Hin, Cin)` (R155). -/
def daa (a : Byte) (n h c : Bool) : Byte × FlagChange :=
  if n then
    let r := if c then a - 0x60#8 else a
    let r := if h then r - 0x06#8 else r
    (r, { z := some (isZero r), h := some false, c := some c })
  else
    let c' := daaHigh a c
    let r := if c' then a + 0x60#8 else a
    let r := if daaLow r h then r + 0x06#8 else r
    (r, { z := some (isZero r), h := some false, c := some c' })

/-- Whether a changeset sets C. -/
def carryOf (ch : FlagChange) : Bool := ch.c.getD false

/-- `add16(hl, v)`: low bytes, then high bytes with the carry between them (R156). -/
def add16 (hl v : Word) : Word × FlagChange :=
  let lo := add (loByte hl) (loByte v)
  let hi := adc (hiByte hl) (hiByte v) (carryOf lo.2)
  (pair hi.1 lo.1, { n := some false, h := hi.2.h, c := hi.2.c })

/-- `sp_plus_e(sp, e)` (R157). -/
def spPlusE (sp : Word) (e : Byte) : Word × FlagChange :=
  let lo := add (loByte sp) e
  let hi := if e.getLsbD 7 then hiByte sp - bitByte (!carryOf lo.2) else hiByte sp + bitByte (carryOf lo.2)
  (pair hi lo.1, { z := some false, n := some false, h := lo.2.h, c := lo.2.c })

end Alu

end Sys2Proof.Machine
end

