-- ==== Sys2Proof/Machine/Ops.lean ====
section
/-! DEFINITION. The operations every instruction is built from: memory, the machine cycle, the port, the fetch unit, the
stack, the interrupt arbiter with the dispatch sequence, the lock-up, and reset (spec/20_memory.md, 42_sequencer.md,
60_exceptions.md, 70_reset_and_hazards.md). -/

namespace Sys2Proof.Machine

/-! ### Memory -/

/-- What an address that nothing has written reads as. DESIGN CHOICE, log 2; unsafe: the spec gives memory no contents
(R41, U7). -/
def Memory.unlisted : Byte := 0x00#8

/-- The byte at an address. -/
def Memory.read : Memory → Nat → Byte
  | [], _ => Memory.unlisted
  | (k, v) :: m, n => if n = k then v else Memory.read m n

/-- List a byte at an address, in the place of what is listed there, before the first entry of a higher address. -/
def Memory.insert : Memory → Nat → Byte → Memory
  | [], n, v => [(n, v)]
  | (k, w) :: m, n, v =>
    if n < k then (n, v) :: (k, w) :: m
    else if n = k then (n, v) :: m
    else (k, w) :: Memory.insert m n v

/-- List nothing at an address. -/
def Memory.erase : Memory → Nat → Memory
  | [], _ => []
  | (k, w) :: m, n => if n = k then Memory.erase m n else (k, w) :: Memory.erase m n

/-- Store one byte, keeping the canonical form: the value an unlisted address reads as is not listed. -/
def Memory.write (m : Memory) (n : Nat) (v : Byte) : Memory :=
  if v = Memory.unlisted then m.erase n else m.insert n v

/-- The entries rise strictly from `lo` on, lie in the 65,536 bytes of the space (R36), and hold no unlisted value. -/
def Memory.wfFrom : Nat → Memory → Bool
  | _, [] => true
  | lo, (k, v) :: m => decide (lo ≤ k) && decide (k < 65536) && decide (v ≠ Memory.unlisted) && Memory.wfFrom (k + 1) m

/-- The canonical form of a memory. -/
def Memory.wf (m : Memory) : Bool := Memory.wfFrom 0 m

/-- What the environment's memory holds at an address now: the answer to a `read` there (R5, R8). -/
def State.readByte (s : State) (addr : Word) : Byte := s.mem.read addr.toNat

/-- The environment's memory with one byte changed. -/
def State.putByte (s : State) (addr : Word) (v : Byte) : State := s.setMem (s.mem.write addr.toNat v)

/-! ### The interrupt lines -/

/-- The bit of IE and IF that belongs to a line (R402, R35). -/
def lineBit : Interrupt → Byte
  | .vblank => 0x01#8
  | .lcdStat => 0x02#8
  | .timer => 0x04#8
  | .serial => 0x08#8
  | .joypad => 0x10#8

/-- The service address of a line (R402). -/
def serviceAddress : Interrupt → Word
  | .vblank => 0x0040#16
  | .lcdStat => 0x0048#16
  | .timer => 0x0050#16
  | .serial => 0x0058#16
  | .joypad => 0x0060#16

/-! ### The machine cycle -/

/-- One action of the environment (R8). A request sets the line's bit of IF and leaves the others (R35). -/
def State.act (s : State) : EnvAction → State
  | .write addr v => s.putByte addr v
  | .request n => s.putByte Config.ifAddr (s.readByte Config.ifAddr ||| lineBit n)
  | .reset => s.setResetLine true

/-- The environment's actions of one machine cycle, in order. -/
def State.acts (s : State) : EnvCycle → State
  | [] => s
  | x :: xs => (s.act x).acts xs

/-- `Tick()`: the end of a machine cycle, at which the environment acts (R6, R8). -/
def State.tick (s : State) : State :=
  match s.env with
  | [] => s
  | acts :: rest => (s.setEnv rest).acts acts

/-- One machine cycle that emits the entry `k` of the trace (R219). While reset is asserted there is none: "CORE issues no
transaction" (R450; log 4). -/
def State.cycle (s : State) (k : BusCycle) : State :=
  if s.resetLine then s else (s.setTrace (k :: s.trace)).tick

/-- `Tick()` written alone: an internal cycle with no transaction (R11). -/
def State.idle (s : State) : State := s.cycle .idle

/-- `MemRead(addr, 1)`: one `read` transaction, then a tick; its value is the environment's answer (R11, R61). -/
def State.memRead (s : State) (addr : Word) : Byte × State :=
  (s.readByte addr, s.cycle (.read addr (s.readByte addr)))

/-- `MemWrite(addr, 1, v)`: one `write` transaction, then a tick (R11, R61). -/
def State.memWrite (s : State) (addr : Word) (v : Byte) : State :=
  if s.resetLine then s else (s.putByte addr v).cycle (.write addr v)

/-- `SideRead(addr)`: the arbiter's read, which costs no cycle and is not in the trace (R74). -/
def State.sideRead (s : State) (addr : Word) : Byte := s.readByte addr

/-- `SideWrite(addr, v)`: the arbiter's write, which costs no cycle and is not in the trace (R74). -/
def State.sideWrite (s : State) (addr : Word) (v : Byte) : State :=
  if s.resetLine then s else s.putByte addr v

/-! ### Immediates and the stack -/

/-- `Imm8()`: read at PC, then PC + 1 (R213). -/
def State.imm8 (s : State) : Byte × State :=
  ((s.memRead s.pc).1, (s.memRead s.pc).2.setPc (s.pc + 1))

/-- `Push16(v)`: high byte at SP-1, then low byte at SP-2 (R220). -/
def State.push16 (s : State) (v : Word) : State :=
  let s1 := (s.setSp (s.sp - 1)).memWrite (s.sp - 1) (hiByte v)
  (s1.setSp (s.sp - 2)).memWrite (s.sp - 2) (loByte v)

/-- `Pop16()`: low byte at SP, then high byte at SP+1 (R220). -/
def State.pop16 (s : State) : Word × State :=
  let lo := s.memRead s.sp
  let hi := (lo.2.setSp (s.sp + 1)).memRead (s.sp + 1)
  (pair hi.1 lo.1, hi.2.setSp (s.sp + 2))

/-! ### The interrupt arbiter and the dispatch -/

/-- `pending() = SideRead(IE_ADDR) & SideRead(IF_ADDR) & 0x1F` (R403). -/
def State.pending (s : State) : Byte := s.sideRead Config.ieAddr &&& s.sideRead Config.ifAddr &&& 0x1F#8

/-- The five lines, VBlank first and Joypad last (R404). -/
def interruptOrder : List Interrupt := [.vblank, .lcdStat, .timer, .serial, .joypad]

/-- `active_interrupts()`: the pending lines in priority order (R404). -/
def State.activeInterrupts (s : State) : List Interrupt :=
  interruptOrder.filter fun n => decide (s.pending &&& lineBit n ≠ 0#8)

/-- `highest()`: "the first of that ordered sequence" (R404). -/
def State.highest (s : State) : Option Interrupt := s.activeInterrupts.head?

/-- The acknowledge: clears the line's bit of IF and leaves the others (R407). -/
def State.acknowledge (s : State) (n : Interrupt) : State :=
  s.sideWrite Config.ifAddr (s.sideRead Config.ifAddr &&& ~~~(lineBit n))

/-- `IR <- MemRead(PC, 1); PC <- PC +_16 1` (R212, R406). -/
def State.fetchOpcode (s : State) : State :=
  ((s.memRead s.pc).2.setIr (s.memRead s.pc).1).setPc (s.pc + 1)

/-- `Dispatch(n)`: taking an interrupt (R406). The value pushed is the address of the overridden opcode, PC - 1
(conflict C4, decision D8). -/
def State.dispatch (s : State) (n : Interrupt) : State :=
  let s1 := (s.setPc (s.pc - 1)).idle.idle
  let s2 := s1.push16 s1.pc
  let s3 := ((s2.setIme false).setEiPending false).acknowledge n
  (s3.setPc (serviceAddress n)).fetchOpcode

/-- The delayed effect of EI, the `else` arm of R405 (R215, R32). -/
def State.commitEi (s : State) : State :=
  if s.eiPending then (s.setIme true).setEiPending false else s

/-- `InterruptCheck()` (R405). -/
def State.interruptCheck (s : State) : State :=
  match s.ime, s.highest with
  | true, some n => s.dispatch n
  | _, _ => s.commitEi

/-- `FetchNext()`: the opcode fetch of the next instruction, then the boundary actions (R212, R214). -/
def State.fetchNext (s : State) : State := s.fetchOpcode.interruptCheck

/-! ### The lock-up and reset -/

/-- `raise Lockup(op)`: the only synchronous exception; "nothing else changes" (R401). -/
def State.lockup (s : State) : State := s.setRun .locked

/-- The state CORE is in when reset is released (R450, R451); memory, the rest of the environment's script and the trace
so far are not CORE's to reset (R35, R36). DESIGN CHOICE, log 4. -/
def State.applyReset (s : State) : State :=
  { State.reset with mem := s.mem, env := s.env, trace := s.trace }

/-- The end of a step: a reset asserted during it abandons the instruction (R450; log 4). -/
def State.settle (s : State) : State := if s.resetLine then s.applyReset else s

/-- What becomes of a core that only reset can move (R223): the state after the first reset in the script, if there is
one, the environment acting until then. DESIGN CHOICE, log 6. -/
def resetInScript : List EnvCycle → State → Option State
  | [], _ => none
  | acts :: rest, s =>
    if ((s.setEnv rest).acts acts).resetLine then some ((s.setEnv rest).acts acts).applyReset
    else resetInScript rest ((s.setEnv rest).acts acts)

/-- A Stopped or Locked core: no step until reset (R223). -/
def State.stuck (s : State) (why : Fault) : Host.Outcome State Fault Refusal :=
  match resetInScript s.env s with
  | some t => .next t
  | none => .fault why

/-- A Halted step (R222). -/
def State.stepHalted (s : State) : State :=
  if s.pending ≠ 0#8 then (s.setRun .running).fetchNext else s.idle

end Sys2Proof.Machine
end

