-- ==== Sys2Proof/Machine/Operands.lean ====
section
/-! DEFINITION. Operand access: every target, read and written as spec/41_operand_access.md R180 to R193 says. -/

namespace Sys2Proof.Machine

/-- `r8[i]` read: a register costs no cycle (R181), index 6 is `MemRead(HL, 1)` (R183, R11). -/
def State.readR8 (s : State) : R8 → Byte × State
  | .b => (s.b, s)
  | .c => (s.c, s)
  | .d => (s.d, s)
  | .e => (s.e, s)
  | .h => (s.h, s)
  | .l => (s.l, s)
  | .atHl => s.memRead s.hl
  | .a => (s.a, s)

/-- `r8[i] <- v`: a register costs no cycle (R181), index 6 is `MemWrite(HL, 1, v)` (R183, R11). -/
def State.writeR8 (s : State) (r : R8) (v : Byte) : State :=
  match r with
  | .b => s.setB v
  | .c => s.setC v
  | .d => s.setD v
  | .e => s.setE v
  | .h => s.setH v
  | .l => s.setL v
  | .atHl => s.memWrite s.hl v
  | .a => s.setA v

/-- `rp[i]` (R182). -/
def State.getRp (s : State) : Rp → Word
  | .bc => s.bc
  | .de => s.de
  | .hl => s.hl
  | .sp => s.sp

/-- `rp[i] <- v` (R182). -/
def State.setRp (s : State) (p : Rp) (v : Word) : State :=
  match p with
  | .bc => s.setBC v
  | .de => s.setDE v
  | .hl => s.setHL v
  | .sp => s.setSp v

/-- `rp2[i]` (R182). -/
def State.getRp2 (s : State) : Rp2 → Word
  | .bc => s.bc
  | .de => s.de
  | .hl => s.hl
  | .af => s.af

/-- `rp2[i] <- v`; a `set` of AF stores `value & 0xFFF0` (R182, R28). -/
def State.setRp2 (s : State) (p : Rp2) (v : Word) : State :=
  match p with
  | .bc => s.setBC v
  | .de => s.setDE v
  | .hl => s.setHL v
  | .af => s.setAF v

/-- The address of `(BC)`, `(DE)`, `(HL+)`, `(HL-)`: what the pointer held before the access (R183, R184). -/
def State.indAddr (s : State) : Ind → Word
  | .bc => s.bc
  | .de => s.de
  | .hlInc => s.hl
  | .hlDec => s.hl

/-- The update of the pointer after the access: HL + 1, HL - 1, or none (R183, R184). -/
def State.indUpdate (s : State) : Ind → State
  | .bc => s
  | .de => s
  | .hlInc => s.setHL (s.hl + 1)
  | .hlDec => s.setHL (s.hl - 1)

/-- A result and its changeset put into A and F: `A <- w; apply(f)`. -/
def State.accept (s : State) (r : Byte × FlagChange) : State := (s.setA r.1).applyFlags r.2

/-- The computation of `alu[y]` on A and an operand (R300 to R307). -/
def State.aluResult (s : State) (op : AluOp) (v : Byte) : Byte × FlagChange :=
  match op with
  | .add => Alu.add s.a v
  | .adc => Alu.adc s.a v s.flagC
  | .sub => Alu.sub s.a v
  | .sbc => Alu.sbc s.a v s.flagC
  | .and => Alu.and s.a v
  | .xor => Alu.xor s.a v
  | .or => Alu.or s.a v
  | .cp => Alu.sub s.a v

/-- `alu[y]` applied: A and F, but CP leaves A (R307). -/
def State.alu8 (s : State) (op : AluOp) (v : Byte) : State :=
  match op with
  | .cp => s.applyFlags (s.aluResult .cp v).2
  | op => s.accept (s.aluResult op v)

/-- The computation of `rot[y]` (R381 to R388). -/
def State.rotResult (s : State) (op : RotOp) (v : Byte) : Byte × FlagChange :=
  match op with
  | .rlc => Alu.rlc v
  | .rrc => Alu.rrc v
  | .rl => Alu.rl v s.flagC
  | .rr => Alu.rr v s.flagC
  | .sla => Alu.sla v
  | .sra => Alu.sra v
  | .swap => Alu.swap v
  | .srl => Alu.srl v

end Sys2Proof.Machine
end

