-- ==== Sys2Proof/Machine/Accumulator.lean ====
section
/-! DEFINITION. The accumulator rotates, DAA, CPL, SCF, CCF (spec/43_block0.md R263 to R270). -/

namespace Sys2Proof.Machine

/-- `RLCA` (R263). -/
def execRlca (s : State) : Host.Outcome State Fault Refusal := .next (s.accept (Alu.accRotate (Alu.rlc s.a)))
/-- `RRCA` (R264). -/
def execRrca (s : State) : Host.Outcome State Fault Refusal := .next (s.accept (Alu.accRotate (Alu.rrc s.a)))
/-- `RLA` (R265). -/
def execRla (s : State) : Host.Outcome State Fault Refusal := .next (s.accept (Alu.accRotate (Alu.rl s.a s.flagC)))
/-- `RRA` (R266). -/
def execRra (s : State) : Host.Outcome State Fault Refusal := .next (s.accept (Alu.accRotate (Alu.rr s.a s.flagC)))
/-- `DAA` (R267). -/
def execDaa (s : State) : Host.Outcome State Fault Refusal := .next (s.accept (Alu.daa s.a s.flagN s.flagH s.flagC))
/-- `CPL` (R268). -/
def execCpl (s : State) : Host.Outcome State Fault Refusal := .next (s.accept (Alu.cpl s.a))
/-- `SCF` (R269). -/
def execScf (s : State) : Host.Outcome State Fault Refusal := .next (s.applyFlags Alu.scf)
/-- `CCF` (R270). -/
def execCcf (s : State) : Host.Outcome State Fault Refusal := .next (s.applyFlags (Alu.ccf s.flagC))

end Sys2Proof.Machine
end

