-- ==== Sys2Proof/Machine/Alu8.lean ====
section
/-! DEFINITION. The 8-bit arithmetic and logic on A, and INC and DEC of an 8-bit operand (spec/43_block0.md R257 to R260; 45_block2_alu8.md R300 to R307; 46_block3.md R343 to R350). -/

namespace Sys2Proof.Machine

/-- `v <- r8[z]`, then the operation on A (R300 to R307). -/
def State.aluR8 (s : State) (op : AluOp) (r : R8) : State := (s.readR8 r).2.alu8 op (s.readR8 r).1

/-- `(w, f) <- alu.inc(v); apply(f)`, and `w` written back (R257, R258). -/
def State.incR8 (s : State) (r : R8) : State :=
  let v := s.readR8 r
  (v.2.applyFlags (Alu.inc v.1).2).writeR8 r (Alu.inc v.1).1

/-- `(w, f) <- alu.dec(v); apply(f)`, and `w` written back (R259, R260). -/
def State.decR8 (s : State) (r : R8) : State :=
  let v := s.readR8 r
  (v.2.applyFlags (Alu.dec v.1).2).writeR8 r (Alu.dec v.1).1

/-- `INC B` (R257). -/
def execIncB (s : State) : Host.Outcome State Fault Refusal := .next (s.incR8 .b)
/-- `DEC B` (R259). -/
def execDecB (s : State) : Host.Outcome State Fault Refusal := .next (s.decR8 .b)
/-- `INC C` (R257). -/
def execIncC (s : State) : Host.Outcome State Fault Refusal := .next (s.incR8 .c)
/-- `DEC C` (R259). -/
def execDecC (s : State) : Host.Outcome State Fault Refusal := .next (s.decR8 .c)
/-- `INC D` (R257). -/
def execIncD (s : State) : Host.Outcome State Fault Refusal := .next (s.incR8 .d)
/-- `DEC D` (R259). -/
def execDecD (s : State) : Host.Outcome State Fault Refusal := .next (s.decR8 .d)
/-- `INC E` (R257). -/
def execIncE (s : State) : Host.Outcome State Fault Refusal := .next (s.incR8 .e)
/-- `DEC E` (R259). -/
def execDecE (s : State) : Host.Outcome State Fault Refusal := .next (s.decR8 .e)
/-- `INC H` (R257). -/
def execIncH (s : State) : Host.Outcome State Fault Refusal := .next (s.incR8 .h)
/-- `DEC H` (R259). -/
def execDecH (s : State) : Host.Outcome State Fault Refusal := .next (s.decR8 .h)
/-- `INC L` (R257). -/
def execIncL (s : State) : Host.Outcome State Fault Refusal := .next (s.incR8 .l)
/-- `DEC L` (R259). -/
def execDecL (s : State) : Host.Outcome State Fault Refusal := .next (s.decR8 .l)
/-- `INC (HL)` (R258). -/
def execIncAtHl (s : State) : Host.Outcome State Fault Refusal := .next (s.incR8 .atHl)
/-- `DEC (HL)` (R260). -/
def execDecAtHl (s : State) : Host.Outcome State Fault Refusal := .next (s.decR8 .atHl)
/-- `INC A` (R257). -/
def execIncA (s : State) : Host.Outcome State Fault Refusal := .next (s.incR8 .a)
/-- `DEC A` (R259). -/
def execDecA (s : State) : Host.Outcome State Fault Refusal := .next (s.decR8 .a)
/-- `ADD A,B` (R300). -/
def execAddAB (s : State) : Host.Outcome State Fault Refusal := .next (s.aluR8 .add .b)
/-- `ADD A,C` (R300). -/
def execAddAC (s : State) : Host.Outcome State Fault Refusal := .next (s.aluR8 .add .c)
/-- `ADD A,D` (R300). -/
def execAddAD (s : State) : Host.Outcome State Fault Refusal := .next (s.aluR8 .add .d)
/-- `ADD A,E` (R300). -/
def execAddAE (s : State) : Host.Outcome State Fault Refusal := .next (s.aluR8 .add .e)
/-- `ADD A,H` (R300). -/
def execAddAH (s : State) : Host.Outcome State Fault Refusal := .next (s.aluR8 .add .h)
/-- `ADD A,L` (R300). -/
def execAddAL (s : State) : Host.Outcome State Fault Refusal := .next (s.aluR8 .add .l)
/-- `ADD A,(HL)` (R300). -/
def execAddAAtHl (s : State) : Host.Outcome State Fault Refusal := .next (s.aluR8 .add .atHl)
/-- `ADD A,A` (R300). -/
def execAddAA (s : State) : Host.Outcome State Fault Refusal := .next (s.aluR8 .add .a)
/-- `ADC A,B` (R301). -/
def execAdcAB (s : State) : Host.Outcome State Fault Refusal := .next (s.aluR8 .adc .b)
/-- `ADC A,C` (R301). -/
def execAdcAC (s : State) : Host.Outcome State Fault Refusal := .next (s.aluR8 .adc .c)
/-- `ADC A,D` (R301). -/
def execAdcAD (s : State) : Host.Outcome State Fault Refusal := .next (s.aluR8 .adc .d)
/-- `ADC A,E` (R301). -/
def execAdcAE (s : State) : Host.Outcome State Fault Refusal := .next (s.aluR8 .adc .e)
/-- `ADC A,H` (R301). -/
def execAdcAH (s : State) : Host.Outcome State Fault Refusal := .next (s.aluR8 .adc .h)
/-- `ADC A,L` (R301). -/
def execAdcAL (s : State) : Host.Outcome State Fault Refusal := .next (s.aluR8 .adc .l)
/-- `ADC A,(HL)` (R301). -/
def execAdcAAtHl (s : State) : Host.Outcome State Fault Refusal := .next (s.aluR8 .adc .atHl)
/-- `ADC A,A` (R301). -/
def execAdcAA (s : State) : Host.Outcome State Fault Refusal := .next (s.aluR8 .adc .a)
/-- `SUB B` (R302). -/
def execSubB (s : State) : Host.Outcome State Fault Refusal := .next (s.aluR8 .sub .b)
/-- `SUB C` (R302). -/
def execSubC (s : State) : Host.Outcome State Fault Refusal := .next (s.aluR8 .sub .c)
/-- `SUB D` (R302). -/
def execSubD (s : State) : Host.Outcome State Fault Refusal := .next (s.aluR8 .sub .d)
/-- `SUB E` (R302). -/
def execSubE (s : State) : Host.Outcome State Fault Refusal := .next (s.aluR8 .sub .e)
/-- `SUB H` (R302). -/
def execSubH (s : State) : Host.Outcome State Fault Refusal := .next (s.aluR8 .sub .h)
/-- `SUB L` (R302). -/
def execSubL (s : State) : Host.Outcome State Fault Refusal := .next (s.aluR8 .sub .l)
/-- `SUB (HL)` (R302). -/
def execSubAtHl (s : State) : Host.Outcome State Fault Refusal := .next (s.aluR8 .sub .atHl)
/-- `SUB A` (R302). -/
def execSubA (s : State) : Host.Outcome State Fault Refusal := .next (s.aluR8 .sub .a)
/-- `SBC A,B` (R303). -/
def execSbcAB (s : State) : Host.Outcome State Fault Refusal := .next (s.aluR8 .sbc .b)
/-- `SBC A,C` (R303). -/
def execSbcAC (s : State) : Host.Outcome State Fault Refusal := .next (s.aluR8 .sbc .c)
/-- `SBC A,D` (R303). -/
def execSbcAD (s : State) : Host.Outcome State Fault Refusal := .next (s.aluR8 .sbc .d)
/-- `SBC A,E` (R303). -/
def execSbcAE (s : State) : Host.Outcome State Fault Refusal := .next (s.aluR8 .sbc .e)
/-- `SBC A,H` (R303). -/
def execSbcAH (s : State) : Host.Outcome State Fault Refusal := .next (s.aluR8 .sbc .h)
/-- `SBC A,L` (R303). -/
def execSbcAL (s : State) : Host.Outcome State Fault Refusal := .next (s.aluR8 .sbc .l)
/-- `SBC A,(HL)` (R303). -/
def execSbcAAtHl (s : State) : Host.Outcome State Fault Refusal := .next (s.aluR8 .sbc .atHl)
/-- `SBC A,A` (R303). -/
def execSbcAA (s : State) : Host.Outcome State Fault Refusal := .next (s.aluR8 .sbc .a)
/-- `AND B` (R304). -/
def execAndB (s : State) : Host.Outcome State Fault Refusal := .next (s.aluR8 .and .b)
/-- `AND C` (R304). -/
def execAndC (s : State) : Host.Outcome State Fault Refusal := .next (s.aluR8 .and .c)
/-- `AND D` (R304). -/
def execAndD (s : State) : Host.Outcome State Fault Refusal := .next (s.aluR8 .and .d)
/-- `AND E` (R304). -/
def execAndE (s : State) : Host.Outcome State Fault Refusal := .next (s.aluR8 .and .e)
/-- `AND H` (R304). -/
def execAndH (s : State) : Host.Outcome State Fault Refusal := .next (s.aluR8 .and .h)
/-- `AND L` (R304). -/
def execAndL (s : State) : Host.Outcome State Fault Refusal := .next (s.aluR8 .and .l)
/-- `AND (HL)` (R304). -/
def execAndAtHl (s : State) : Host.Outcome State Fault Refusal := .next (s.aluR8 .and .atHl)
/-- `AND A` (R304). -/
def execAndA (s : State) : Host.Outcome State Fault Refusal := .next (s.aluR8 .and .a)
/-- `XOR B` (R305). -/
def execXorB (s : State) : Host.Outcome State Fault Refusal := .next (s.aluR8 .xor .b)
/-- `XOR C` (R305). -/
def execXorC (s : State) : Host.Outcome State Fault Refusal := .next (s.aluR8 .xor .c)
/-- `XOR D` (R305). -/
def execXorD (s : State) : Host.Outcome State Fault Refusal := .next (s.aluR8 .xor .d)
/-- `XOR E` (R305). -/
def execXorE (s : State) : Host.Outcome State Fault Refusal := .next (s.aluR8 .xor .e)
/-- `XOR H` (R305). -/
def execXorH (s : State) : Host.Outcome State Fault Refusal := .next (s.aluR8 .xor .h)
/-- `XOR L` (R305). -/
def execXorL (s : State) : Host.Outcome State Fault Refusal := .next (s.aluR8 .xor .l)
/-- `XOR (HL)` (R305). -/
def execXorAtHl (s : State) : Host.Outcome State Fault Refusal := .next (s.aluR8 .xor .atHl)
/-- `XOR A` (R305). -/
def execXorA (s : State) : Host.Outcome State Fault Refusal := .next (s.aluR8 .xor .a)
/-- `OR B` (R306). -/
def execOrB (s : State) : Host.Outcome State Fault Refusal := .next (s.aluR8 .or .b)
/-- `OR C` (R306). -/
def execOrC (s : State) : Host.Outcome State Fault Refusal := .next (s.aluR8 .or .c)
/-- `OR D` (R306). -/
def execOrD (s : State) : Host.Outcome State Fault Refusal := .next (s.aluR8 .or .d)
/-- `OR E` (R306). -/
def execOrE (s : State) : Host.Outcome State Fault Refusal := .next (s.aluR8 .or .e)
/-- `OR H` (R306). -/
def execOrH (s : State) : Host.Outcome State Fault Refusal := .next (s.aluR8 .or .h)
/-- `OR L` (R306). -/
def execOrL (s : State) : Host.Outcome State Fault Refusal := .next (s.aluR8 .or .l)
/-- `OR (HL)` (R306). -/
def execOrAtHl (s : State) : Host.Outcome State Fault Refusal := .next (s.aluR8 .or .atHl)
/-- `OR A` (R306). -/
def execOrA (s : State) : Host.Outcome State Fault Refusal := .next (s.aluR8 .or .a)
/-- `CP B` (R307). -/
def execCpB (s : State) : Host.Outcome State Fault Refusal := .next (s.aluR8 .cp .b)
/-- `CP C` (R307). -/
def execCpC (s : State) : Host.Outcome State Fault Refusal := .next (s.aluR8 .cp .c)
/-- `CP D` (R307). -/
def execCpD (s : State) : Host.Outcome State Fault Refusal := .next (s.aluR8 .cp .d)
/-- `CP E` (R307). -/
def execCpE (s : State) : Host.Outcome State Fault Refusal := .next (s.aluR8 .cp .e)
/-- `CP H` (R307). -/
def execCpH (s : State) : Host.Outcome State Fault Refusal := .next (s.aluR8 .cp .h)
/-- `CP L` (R307). -/
def execCpL (s : State) : Host.Outcome State Fault Refusal := .next (s.aluR8 .cp .l)
/-- `CP (HL)` (R307). -/
def execCpAtHl (s : State) : Host.Outcome State Fault Refusal := .next (s.aluR8 .cp .atHl)
/-- `CP A` (R307). -/
def execCpA (s : State) : Host.Outcome State Fault Refusal := .next (s.aluR8 .cp .a)
/-- `ADD A,d8` (R343). -/
def execAddAD8 (v : Byte) (s : State) : Host.Outcome State Fault Refusal := .next (s.alu8 .add v)
/-- `ADC A,d8` (R344). -/
def execAdcAD8 (v : Byte) (s : State) : Host.Outcome State Fault Refusal := .next (s.alu8 .adc v)
/-- `SUB d8` (R345). -/
def execSubD8 (v : Byte) (s : State) : Host.Outcome State Fault Refusal := .next (s.alu8 .sub v)
/-- `SBC A,d8` (R346). -/
def execSbcAD8 (v : Byte) (s : State) : Host.Outcome State Fault Refusal := .next (s.alu8 .sbc v)
/-- `AND d8` (R347). -/
def execAndD8 (v : Byte) (s : State) : Host.Outcome State Fault Refusal := .next (s.alu8 .and v)
/-- `XOR d8` (R348). -/
def execXorD8 (v : Byte) (s : State) : Host.Outcome State Fault Refusal := .next (s.alu8 .xor v)
/-- `OR d8` (R349). -/
def execOrD8 (v : Byte) (s : State) : Host.Outcome State Fault Refusal := .next (s.alu8 .or v)
/-- `CP d8` (R350). -/
def execCpD8 (v : Byte) (s : State) : Host.Outcome State Fault Refusal := .next (s.alu8 .cp v)

end Sys2Proof.Machine
end

