-- ==== Sys2Proof/Machine/Arith16.lean ====
section
/-! DEFINITION. The 16-bit arithmetic (spec/43_block0.md R246, R255, R256; 46_block3.md R322). -/

namespace Sys2Proof.Machine

/-- `(v, f) <- alu.add16(HL, rp[p]); HL <- v; apply(f); Tick()` (R246). -/
def State.addHlPair (s : State) (p : Rp) : State :=
  ((s.setHL (Alu.add16 s.hl (s.getRp p)).1).applyFlags (Alu.add16 s.hl (s.getRp p)).2).idle

/-- `rp[p] <- rp[p] +_16 1; Tick()` (R255). -/
def State.incPair (s : State) (p : Rp) : State := (s.setRp p (s.getRp p + 1)).idle

/-- `rp[p] <- rp[p] -_16 1; Tick()` (R256). -/
def State.decPair (s : State) (p : Rp) : State := (s.setRp p (s.getRp p - 1)).idle

/-- `(v, f) <- alu.sp_plus_e(SP, e); SP <- v; apply(f); Tick(); Tick()` (R322). -/
def State.addSp (s : State) (e : Byte) : State :=
  ((s.setSp (Alu.spPlusE s.sp e).1).applyFlags (Alu.spPlusE s.sp e).2).idle.idle

/-- `INC BC` (R255). -/
def execIncBc (s : State) : Host.Outcome State Fault Refusal := .next (s.incPair .bc)
/-- `ADD HL,BC` (R246). -/
def execAddHlBc (s : State) : Host.Outcome State Fault Refusal := .next (s.addHlPair .bc)
/-- `DEC BC` (R256). -/
def execDecBc (s : State) : Host.Outcome State Fault Refusal := .next (s.decPair .bc)
/-- `INC DE` (R255). -/
def execIncDe (s : State) : Host.Outcome State Fault Refusal := .next (s.incPair .de)
/-- `ADD HL,DE` (R246). -/
def execAddHlDe (s : State) : Host.Outcome State Fault Refusal := .next (s.addHlPair .de)
/-- `DEC DE` (R256). -/
def execDecDe (s : State) : Host.Outcome State Fault Refusal := .next (s.decPair .de)
/-- `INC HL` (R255). -/
def execIncHl (s : State) : Host.Outcome State Fault Refusal := .next (s.incPair .hl)
/-- `ADD HL,HL` (R246). -/
def execAddHlHl (s : State) : Host.Outcome State Fault Refusal := .next (s.addHlPair .hl)
/-- `DEC HL` (R256). -/
def execDecHl (s : State) : Host.Outcome State Fault Refusal := .next (s.decPair .hl)
/-- `INC SP` (R255). -/
def execIncSp (s : State) : Host.Outcome State Fault Refusal := .next (s.incPair .sp)
/-- `ADD HL,SP` (R246). -/
def execAddHlSp (s : State) : Host.Outcome State Fault Refusal := .next (s.addHlPair .sp)
/-- `DEC SP` (R256). -/
def execDecSp (s : State) : Host.Outcome State Fault Refusal := .next (s.decPair .sp)
/-- `ADD SP,e8` (R322). -/
def execAddSpE8 (e : Byte) (s : State) : Host.Outcome State Fault Refusal := .next (s.addSp e)

end Sys2Proof.Machine
end

