-- ==== Sys2Proof/Machine/BitOps.lean ====
section
/-! DEFINITION. BIT, RES, SET (spec/47_cb_prefixed.md R380, R389 to R391). -/

namespace Sys2Proof.Machine

/-- `v <- r8[z]; apply(alu.test(y, v))`; "Nothing is written back" (R389). -/
def State.bitOp (s : State) (n : Nat) (r : R8) : State := (s.readR8 r).2.applyFlags (Alu.test n (s.readR8 r).1)

/-- `v <- r8[z]; r8[z] <- v & ~(1 << y)` (R390). -/
def State.resOp (s : State) (n : Nat) (r : R8) : State := (s.readR8 r).2.writeR8 r (Alu.res n (s.readR8 r).1)

/-- `v <- r8[z]; r8[z] <- v | (1 << y)` (R391). -/
def State.setOp (s : State) (n : Nat) (r : R8) : State := (s.readR8 r).2.writeR8 r (Alu.set n (s.readR8 r).1)

/-- `BIT 0,B` (R389). -/
def execBit0B (s : State) : Host.Outcome State Fault Refusal := .next (s.bitOp 0 .b)
/-- `BIT 0,C` (R389). -/
def execBit0C (s : State) : Host.Outcome State Fault Refusal := .next (s.bitOp 0 .c)
/-- `BIT 0,D` (R389). -/
def execBit0D (s : State) : Host.Outcome State Fault Refusal := .next (s.bitOp 0 .d)
/-- `BIT 0,E` (R389). -/
def execBit0E (s : State) : Host.Outcome State Fault Refusal := .next (s.bitOp 0 .e)
/-- `BIT 0,H` (R389). -/
def execBit0H (s : State) : Host.Outcome State Fault Refusal := .next (s.bitOp 0 .h)
/-- `BIT 0,L` (R389). -/
def execBit0L (s : State) : Host.Outcome State Fault Refusal := .next (s.bitOp 0 .l)
/-- `BIT 0,(HL)` (R389). -/
def execBit0AtHl (s : State) : Host.Outcome State Fault Refusal := .next (s.bitOp 0 .atHl)
/-- `BIT 0,A` (R389). -/
def execBit0A (s : State) : Host.Outcome State Fault Refusal := .next (s.bitOp 0 .a)
/-- `BIT 1,B` (R389). -/
def execBit1B (s : State) : Host.Outcome State Fault Refusal := .next (s.bitOp 1 .b)
/-- `BIT 1,C` (R389). -/
def execBit1C (s : State) : Host.Outcome State Fault Refusal := .next (s.bitOp 1 .c)
/-- `BIT 1,D` (R389). -/
def execBit1D (s : State) : Host.Outcome State Fault Refusal := .next (s.bitOp 1 .d)
/-- `BIT 1,E` (R389). -/
def execBit1E (s : State) : Host.Outcome State Fault Refusal := .next (s.bitOp 1 .e)
/-- `BIT 1,H` (R389). -/
def execBit1H (s : State) : Host.Outcome State Fault Refusal := .next (s.bitOp 1 .h)
/-- `BIT 1,L` (R389). -/
def execBit1L (s : State) : Host.Outcome State Fault Refusal := .next (s.bitOp 1 .l)
/-- `BIT 1,(HL)` (R389). -/
def execBit1AtHl (s : State) : Host.Outcome State Fault Refusal := .next (s.bitOp 1 .atHl)
/-- `BIT 1,A` (R389). -/
def execBit1A (s : State) : Host.Outcome State Fault Refusal := .next (s.bitOp 1 .a)
/-- `BIT 2,B` (R389). -/
def execBit2B (s : State) : Host.Outcome State Fault Refusal := .next (s.bitOp 2 .b)
/-- `BIT 2,C` (R389). -/
def execBit2C (s : State) : Host.Outcome State Fault Refusal := .next (s.bitOp 2 .c)
/-- `BIT 2,D` (R389). -/
def execBit2D (s : State) : Host.Outcome State Fault Refusal := .next (s.bitOp 2 .d)
/-- `BIT 2,E` (R389). -/
def execBit2E (s : State) : Host.Outcome State Fault Refusal := .next (s.bitOp 2 .e)
/-- `BIT 2,H` (R389). -/
def execBit2H (s : State) : Host.Outcome State Fault Refusal := .next (s.bitOp 2 .h)
/-- `BIT 2,L` (R389). -/
def execBit2L (s : State) : Host.Outcome State Fault Refusal := .next (s.bitOp 2 .l)
/-- `BIT 2,(HL)` (R389). -/
def execBit2AtHl (s : State) : Host.Outcome State Fault Refusal := .next (s.bitOp 2 .atHl)
/-- `BIT 2,A` (R389). -/
def execBit2A (s : State) : Host.Outcome State Fault Refusal := .next (s.bitOp 2 .a)
/-- `BIT 3,B` (R389). -/
def execBit3B (s : State) : Host.Outcome State Fault Refusal := .next (s.bitOp 3 .b)
/-- `BIT 3,C` (R389). -/
def execBit3C (s : State) : Host.Outcome State Fault Refusal := .next (s.bitOp 3 .c)
/-- `BIT 3,D` (R389). -/
def execBit3D (s : State) : Host.Outcome State Fault Refusal := .next (s.bitOp 3 .d)
/-- `BIT 3,E` (R389). -/
def execBit3E (s : State) : Host.Outcome State Fault Refusal := .next (s.bitOp 3 .e)
/-- `BIT 3,H` (R389). -/
def execBit3H (s : State) : Host.Outcome State Fault Refusal := .next (s.bitOp 3 .h)
/-- `BIT 3,L` (R389). -/
def execBit3L (s : State) : Host.Outcome State Fault Refusal := .next (s.bitOp 3 .l)
/-- `BIT 3,(HL)` (R389). -/
def execBit3AtHl (s : State) : Host.Outcome State Fault Refusal := .next (s.bitOp 3 .atHl)
/-- `BIT 3,A` (R389). -/
def execBit3A (s : State) : Host.Outcome State Fault Refusal := .next (s.bitOp 3 .a)
/-- `BIT 4,B` (R389). -/
def execBit4B (s : State) : Host.Outcome State Fault Refusal := .next (s.bitOp 4 .b)
/-- `BIT 4,C` (R389). -/
def execBit4C (s : State) : Host.Outcome State Fault Refusal := .next (s.bitOp 4 .c)
/-- `BIT 4,D` (R389). -/
def execBit4D (s : State) : Host.Outcome State Fault Refusal := .next (s.bitOp 4 .d)
/-- `BIT 4,E` (R389). -/
def execBit4E (s : State) : Host.Outcome State Fault Refusal := .next (s.bitOp 4 .e)
/-- `BIT 4,H` (R389). -/
def execBit4H (s : State) : Host.Outcome State Fault Refusal := .next (s.bitOp 4 .h)
/-- `BIT 4,L` (R389). -/
def execBit4L (s : State) : Host.Outcome State Fault Refusal := .next (s.bitOp 4 .l)
/-- `BIT 4,(HL)` (R389). -/
def execBit4AtHl (s : State) : Host.Outcome State Fault Refusal := .next (s.bitOp 4 .atHl)
/-- `BIT 4,A` (R389). -/
def execBit4A (s : State) : Host.Outcome State Fault Refusal := .next (s.bitOp 4 .a)
/-- `BIT 5,B` (R389). -/
def execBit5B (s : State) : Host.Outcome State Fault Refusal := .next (s.bitOp 5 .b)
/-- `BIT 5,C` (R389). -/
def execBit5C (s : State) : Host.Outcome State Fault Refusal := .next (s.bitOp 5 .c)
/-- `BIT 5,D` (R389). -/
def execBit5D (s : State) : Host.Outcome State Fault Refusal := .next (s.bitOp 5 .d)
/-- `BIT 5,E` (R389). -/
def execBit5E (s : State) : Host.Outcome State Fault Refusal := .next (s.bitOp 5 .e)
/-- `BIT 5,H` (R389). -/
def execBit5H (s : State) : Host.Outcome State Fault Refusal := .next (s.bitOp 5 .h)
/-- `BIT 5,L` (R389). -/
def execBit5L (s : State) : Host.Outcome State Fault Refusal := .next (s.bitOp 5 .l)
/-- `BIT 5,(HL)` (R389). -/
def execBit5AtHl (s : State) : Host.Outcome State Fault Refusal := .next (s.bitOp 5 .atHl)
/-- `BIT 5,A` (R389). -/
def execBit5A (s : State) : Host.Outcome State Fault Refusal := .next (s.bitOp 5 .a)
/-- `BIT 6,B` (R389). -/
def execBit6B (s : State) : Host.Outcome State Fault Refusal := .next (s.bitOp 6 .b)
/-- `BIT 6,C` (R389). -/
def execBit6C (s : State) : Host.Outcome State Fault Refusal := .next (s.bitOp 6 .c)
/-- `BIT 6,D` (R389). -/
def execBit6D (s : State) : Host.Outcome State Fault Refusal := .next (s.bitOp 6 .d)
/-- `BIT 6,E` (R389). -/
def execBit6E (s : State) : Host.Outcome State Fault Refusal := .next (s.bitOp 6 .e)
/-- `BIT 6,H` (R389). -/
def execBit6H (s : State) : Host.Outcome State Fault Refusal := .next (s.bitOp 6 .h)
/-- `BIT 6,L` (R389). -/
def execBit6L (s : State) : Host.Outcome State Fault Refusal := .next (s.bitOp 6 .l)
/-- `BIT 6,(HL)` (R389). -/
def execBit6AtHl (s : State) : Host.Outcome State Fault Refusal := .next (s.bitOp 6 .atHl)
/-- `BIT 6,A` (R389). -/
def execBit6A (s : State) : Host.Outcome State Fault Refusal := .next (s.bitOp 6 .a)
/-- `BIT 7,B` (R389). -/
def execBit7B (s : State) : Host.Outcome State Fault Refusal := .next (s.bitOp 7 .b)
/-- `BIT 7,C` (R389). -/
def execBit7C (s : State) : Host.Outcome State Fault Refusal := .next (s.bitOp 7 .c)
/-- `BIT 7,D` (R389). -/
def execBit7D (s : State) : Host.Outcome State Fault Refusal := .next (s.bitOp 7 .d)
/-- `BIT 7,E` (R389). -/
def execBit7E (s : State) : Host.Outcome State Fault Refusal := .next (s.bitOp 7 .e)
/-- `BIT 7,H` (R389). -/
def execBit7H (s : State) : Host.Outcome State Fault Refusal := .next (s.bitOp 7 .h)
/-- `BIT 7,L` (R389). -/
def execBit7L (s : State) : Host.Outcome State Fault Refusal := .next (s.bitOp 7 .l)
/-- `BIT 7,(HL)` (R389). -/
def execBit7AtHl (s : State) : Host.Outcome State Fault Refusal := .next (s.bitOp 7 .atHl)
/-- `BIT 7,A` (R389). -/
def execBit7A (s : State) : Host.Outcome State Fault Refusal := .next (s.bitOp 7 .a)
/-- `RES 0,B` (R390). -/
def execRes0B (s : State) : Host.Outcome State Fault Refusal := .next (s.resOp 0 .b)
/-- `RES 0,C` (R390). -/
def execRes0C (s : State) : Host.Outcome State Fault Refusal := .next (s.resOp 0 .c)
/-- `RES 0,D` (R390). -/
def execRes0D (s : State) : Host.Outcome State Fault Refusal := .next (s.resOp 0 .d)
/-- `RES 0,E` (R390). -/
def execRes0E (s : State) : Host.Outcome State Fault Refusal := .next (s.resOp 0 .e)
/-- `RES 0,H` (R390). -/
def execRes0H (s : State) : Host.Outcome State Fault Refusal := .next (s.resOp 0 .h)
/-- `RES 0,L` (R390). -/
def execRes0L (s : State) : Host.Outcome State Fault Refusal := .next (s.resOp 0 .l)
/-- `RES 0,(HL)` (R390). -/
def execRes0AtHl (s : State) : Host.Outcome State Fault Refusal := .next (s.resOp 0 .atHl)
/-- `RES 0,A` (R390). -/
def execRes0A (s : State) : Host.Outcome State Fault Refusal := .next (s.resOp 0 .a)
/-- `RES 1,B` (R390). -/
def execRes1B (s : State) : Host.Outcome State Fault Refusal := .next (s.resOp 1 .b)
/-- `RES 1,C` (R390). -/
def execRes1C (s : State) : Host.Outcome State Fault Refusal := .next (s.resOp 1 .c)
/-- `RES 1,D` (R390). -/
def execRes1D (s : State) : Host.Outcome State Fault Refusal := .next (s.resOp 1 .d)
/-- `RES 1,E` (R390). -/
def execRes1E (s : State) : Host.Outcome State Fault Refusal := .next (s.resOp 1 .e)
/-- `RES 1,H` (R390). -/
def execRes1H (s : State) : Host.Outcome State Fault Refusal := .next (s.resOp 1 .h)
/-- `RES 1,L` (R390). -/
def execRes1L (s : State) : Host.Outcome State Fault Refusal := .next (s.resOp 1 .l)
/-- `RES 1,(HL)` (R390). -/
def execRes1AtHl (s : State) : Host.Outcome State Fault Refusal := .next (s.resOp 1 .atHl)
/-- `RES 1,A` (R390). -/
def execRes1A (s : State) : Host.Outcome State Fault Refusal := .next (s.resOp 1 .a)
/-- `RES 2,B` (R390). -/
def execRes2B (s : State) : Host.Outcome State Fault Refusal := .next (s.resOp 2 .b)
/-- `RES 2,C` (R390). -/
def execRes2C (s : State) : Host.Outcome State Fault Refusal := .next (s.resOp 2 .c)
/-- `RES 2,D` (R390). -/
def execRes2D (s : State) : Host.Outcome State Fault Refusal := .next (s.resOp 2 .d)
/-- `RES 2,E` (R390). -/
def execRes2E (s : State) : Host.Outcome State Fault Refusal := .next (s.resOp 2 .e)
/-- `RES 2,H` (R390). -/
def execRes2H (s : State) : Host.Outcome State Fault Refusal := .next (s.resOp 2 .h)
/-- `RES 2,L` (R390). -/
def execRes2L (s : State) : Host.Outcome State Fault Refusal := .next (s.resOp 2 .l)
/-- `RES 2,(HL)` (R390). -/
def execRes2AtHl (s : State) : Host.Outcome State Fault Refusal := .next (s.resOp 2 .atHl)
/-- `RES 2,A` (R390). -/
def execRes2A (s : State) : Host.Outcome State Fault Refusal := .next (s.resOp 2 .a)
/-- `RES 3,B` (R390). -/
def execRes3B (s : State) : Host.Outcome State Fault Refusal := .next (s.resOp 3 .b)
/-- `RES 3,C` (R390). -/
def execRes3C (s : State) : Host.Outcome State Fault Refusal := .next (s.resOp 3 .c)
/-- `RES 3,D` (R390). -/
def execRes3D (s : State) : Host.Outcome State Fault Refusal := .next (s.resOp 3 .d)
/-- `RES 3,E` (R390). -/
def execRes3E (s : State) : Host.Outcome State Fault Refusal := .next (s.resOp 3 .e)
/-- `RES 3,H` (R390). -/
def execRes3H (s : State) : Host.Outcome State Fault Refusal := .next (s.resOp 3 .h)
/-- `RES 3,L` (R390). -/
def execRes3L (s : State) : Host.Outcome State Fault Refusal := .next (s.resOp 3 .l)
/-- `RES 3,(HL)` (R390). -/
def execRes3AtHl (s : State) : Host.Outcome State Fault Refusal := .next (s.resOp 3 .atHl)
/-- `RES 3,A` (R390). -/
def execRes3A (s : State) : Host.Outcome State Fault Refusal := .next (s.resOp 3 .a)
/-- `RES 4,B` (R390). -/
def execRes4B (s : State) : Host.Outcome State Fault Refusal := .next (s.resOp 4 .b)
/-- `RES 4,C` (R390). -/
def execRes4C (s : State) : Host.Outcome State Fault Refusal := .next (s.resOp 4 .c)
/-- `RES 4,D` (R390). -/
def execRes4D (s : State) : Host.Outcome State Fault Refusal := .next (s.resOp 4 .d)
/-- `RES 4,E` (R390). -/
def execRes4E (s : State) : Host.Outcome State Fault Refusal := .next (s.resOp 4 .e)
/-- `RES 4,H` (R390). -/
def execRes4H (s : State) : Host.Outcome State Fault Refusal := .next (s.resOp 4 .h)
/-- `RES 4,L` (R390). -/
def execRes4L (s : State) : Host.Outcome State Fault Refusal := .next (s.resOp 4 .l)
/-- `RES 4,(HL)` (R390). -/
def execRes4AtHl (s : State) : Host.Outcome State Fault Refusal := .next (s.resOp 4 .atHl)
/-- `RES 4,A` (R390). -/
def execRes4A (s : State) : Host.Outcome State Fault Refusal := .next (s.resOp 4 .a)
/-- `RES 5,B` (R390). -/
def execRes5B (s : State) : Host.Outcome State Fault Refusal := .next (s.resOp 5 .b)
/-- `RES 5,C` (R390). -/
def execRes5C (s : State) : Host.Outcome State Fault Refusal := .next (s.resOp 5 .c)
/-- `RES 5,D` (R390). -/
def execRes5D (s : State) : Host.Outcome State Fault Refusal := .next (s.resOp 5 .d)
/-- `RES 5,E` (R390). -/
def execRes5E (s : State) : Host.Outcome State Fault Refusal := .next (s.resOp 5 .e)
/-- `RES 5,H` (R390). -/
def execRes5H (s : State) : Host.Outcome State Fault Refusal := .next (s.resOp 5 .h)
/-- `RES 5,L` (R390). -/
def execRes5L (s : State) : Host.Outcome State Fault Refusal := .next (s.resOp 5 .l)
/-- `RES 5,(HL)` (R390). -/
def execRes5AtHl (s : State) : Host.Outcome State Fault Refusal := .next (s.resOp 5 .atHl)
/-- `RES 5,A` (R390). -/
def execRes5A (s : State) : Host.Outcome State Fault Refusal := .next (s.resOp 5 .a)
/-- `RES 6,B` (R390). -/
def execRes6B (s : State) : Host.Outcome State Fault Refusal := .next (s.resOp 6 .b)
/-- `RES 6,C` (R390). -/
def execRes6C (s : State) : Host.Outcome State Fault Refusal := .next (s.resOp 6 .c)
/-- `RES 6,D` (R390). -/
def execRes6D (s : State) : Host.Outcome State Fault Refusal := .next (s.resOp 6 .d)
/-- `RES 6,E` (R390). -/
def execRes6E (s : State) : Host.Outcome State Fault Refusal := .next (s.resOp 6 .e)
/-- `RES 6,H` (R390). -/
def execRes6H (s : State) : Host.Outcome State Fault Refusal := .next (s.resOp 6 .h)
/-- `RES 6,L` (R390). -/
def execRes6L (s : State) : Host.Outcome State Fault Refusal := .next (s.resOp 6 .l)
/-- `RES 6,(HL)` (R390). -/
def execRes6AtHl (s : State) : Host.Outcome State Fault Refusal := .next (s.resOp 6 .atHl)
/-- `RES 6,A` (R390). -/
def execRes6A (s : State) : Host.Outcome State Fault Refusal := .next (s.resOp 6 .a)
/-- `RES 7,B` (R390). -/
def execRes7B (s : State) : Host.Outcome State Fault Refusal := .next (s.resOp 7 .b)
/-- `RES 7,C` (R390). -/
def execRes7C (s : State) : Host.Outcome State Fault Refusal := .next (s.resOp 7 .c)
/-- `RES 7,D` (R390). -/
def execRes7D (s : State) : Host.Outcome State Fault Refusal := .next (s.resOp 7 .d)
/-- `RES 7,E` (R390). -/
def execRes7E (s : State) : Host.Outcome State Fault Refusal := .next (s.resOp 7 .e)
/-- `RES 7,H` (R390). -/
def execRes7H (s : State) : Host.Outcome State Fault Refusal := .next (s.resOp 7 .h)
/-- `RES 7,L` (R390). -/
def execRes7L (s : State) : Host.Outcome State Fault Refusal := .next (s.resOp 7 .l)
/-- `RES 7,(HL)` (R390). -/
def execRes7AtHl (s : State) : Host.Outcome State Fault Refusal := .next (s.resOp 7 .atHl)
/-- `RES 7,A` (R390). -/
def execRes7A (s : State) : Host.Outcome State Fault Refusal := .next (s.resOp 7 .a)
/-- `SET 0,B` (R391). -/
def execSet0B (s : State) : Host.Outcome State Fault Refusal := .next (s.setOp 0 .b)
/-- `SET 0,C` (R391). -/
def execSet0C (s : State) : Host.Outcome State Fault Refusal := .next (s.setOp 0 .c)
/-- `SET 0,D` (R391). -/
def execSet0D (s : State) : Host.Outcome State Fault Refusal := .next (s.setOp 0 .d)
/-- `SET 0,E` (R391). -/
def execSet0E (s : State) : Host.Outcome State Fault Refusal := .next (s.setOp 0 .e)
/-- `SET 0,H` (R391). -/
def execSet0H (s : State) : Host.Outcome State Fault Refusal := .next (s.setOp 0 .h)
/-- `SET 0,L` (R391). -/
def execSet0L (s : State) : Host.Outcome State Fault Refusal := .next (s.setOp 0 .l)
/-- `SET 0,(HL)` (R391). -/
def execSet0AtHl (s : State) : Host.Outcome State Fault Refusal := .next (s.setOp 0 .atHl)
/-- `SET 0,A` (R391). -/
def execSet0A (s : State) : Host.Outcome State Fault Refusal := .next (s.setOp 0 .a)
/-- `SET 1,B` (R391). -/
def execSet1B (s : State) : Host.Outcome State Fault Refusal := .next (s.setOp 1 .b)
/-- `SET 1,C` (R391). -/
def execSet1C (s : State) : Host.Outcome State Fault Refusal := .next (s.setOp 1 .c)
/-- `SET 1,D` (R391). -/
def execSet1D (s : State) : Host.Outcome State Fault Refusal := .next (s.setOp 1 .d)
/-- `SET 1,E` (R391). -/
def execSet1E (s : State) : Host.Outcome State Fault Refusal := .next (s.setOp 1 .e)
/-- `SET 1,H` (R391). -/
def execSet1H (s : State) : Host.Outcome State Fault Refusal := .next (s.setOp 1 .h)
/-- `SET 1,L` (R391). -/
def execSet1L (s : State) : Host.Outcome State Fault Refusal := .next (s.setOp 1 .l)
/-- `SET 1,(HL)` (R391). -/
def execSet1AtHl (s : State) : Host.Outcome State Fault Refusal := .next (s.setOp 1 .atHl)
/-- `SET 1,A` (R391). -/
def execSet1A (s : State) : Host.Outcome State Fault Refusal := .next (s.setOp 1 .a)
/-- `SET 2,B` (R391). -/
def execSet2B (s : State) : Host.Outcome State Fault Refusal := .next (s.setOp 2 .b)
/-- `SET 2,C` (R391). -/
def execSet2C (s : State) : Host.Outcome State Fault Refusal := .next (s.setOp 2 .c)
/-- `SET 2,D` (R391). -/
def execSet2D (s : State) : Host.Outcome State Fault Refusal := .next (s.setOp 2 .d)
/-- `SET 2,E` (R391). -/
def execSet2E (s : State) : Host.Outcome State Fault Refusal := .next (s.setOp 2 .e)
/-- `SET 2,H` (R391). -/
def execSet2H (s : State) : Host.Outcome State Fault Refusal := .next (s.setOp 2 .h)
/-- `SET 2,L` (R391). -/
def execSet2L (s : State) : Host.Outcome State Fault Refusal := .next (s.setOp 2 .l)
/-- `SET 2,(HL)` (R391). -/
def execSet2AtHl (s : State) : Host.Outcome State Fault Refusal := .next (s.setOp 2 .atHl)
/-- `SET 2,A` (R391). -/
def execSet2A (s : State) : Host.Outcome State Fault Refusal := .next (s.setOp 2 .a)
/-- `SET 3,B` (R391). -/
def execSet3B (s : State) : Host.Outcome State Fault Refusal := .next (s.setOp 3 .b)
/-- `SET 3,C` (R391). -/
def execSet3C (s : State) : Host.Outcome State Fault Refusal := .next (s.setOp 3 .c)
/-- `SET 3,D` (R391). -/
def execSet3D (s : State) : Host.Outcome State Fault Refusal := .next (s.setOp 3 .d)
/-- `SET 3,E` (R391). -/
def execSet3E (s : State) : Host.Outcome State Fault Refusal := .next (s.setOp 3 .e)
/-- `SET 3,H` (R391). -/
def execSet3H (s : State) : Host.Outcome State Fault Refusal := .next (s.setOp 3 .h)
/-- `SET 3,L` (R391). -/
def execSet3L (s : State) : Host.Outcome State Fault Refusal := .next (s.setOp 3 .l)
/-- `SET 3,(HL)` (R391). -/
def execSet3AtHl (s : State) : Host.Outcome State Fault Refusal := .next (s.setOp 3 .atHl)
/-- `SET 3,A` (R391). -/
def execSet3A (s : State) : Host.Outcome State Fault Refusal := .next (s.setOp 3 .a)
/-- `SET 4,B` (R391). -/
def execSet4B (s : State) : Host.Outcome State Fault Refusal := .next (s.setOp 4 .b)
/-- `SET 4,C` (R391). -/
def execSet4C (s : State) : Host.Outcome State Fault Refusal := .next (s.setOp 4 .c)
/-- `SET 4,D` (R391). -/
def execSet4D (s : State) : Host.Outcome State Fault Refusal := .next (s.setOp 4 .d)
/-- `SET 4,E` (R391). -/
def execSet4E (s : State) : Host.Outcome State Fault Refusal := .next (s.setOp 4 .e)
/-- `SET 4,H` (R391). -/
def execSet4H (s : State) : Host.Outcome State Fault Refusal := .next (s.setOp 4 .h)
/-- `SET 4,L` (R391). -/
def execSet4L (s : State) : Host.Outcome State Fault Refusal := .next (s.setOp 4 .l)
/-- `SET 4,(HL)` (R391). -/
def execSet4AtHl (s : State) : Host.Outcome State Fault Refusal := .next (s.setOp 4 .atHl)
/-- `SET 4,A` (R391). -/
def execSet4A (s : State) : Host.Outcome State Fault Refusal := .next (s.setOp 4 .a)
/-- `SET 5,B` (R391). -/
def execSet5B (s : State) : Host.Outcome State Fault Refusal := .next (s.setOp 5 .b)
/-- `SET 5,C` (R391). -/
def execSet5C (s : State) : Host.Outcome State Fault Refusal := .next (s.setOp 5 .c)
/-- `SET 5,D` (R391). -/
def execSet5D (s : State) : Host.Outcome State Fault Refusal := .next (s.setOp 5 .d)
/-- `SET 5,E` (R391). -/
def execSet5E (s : State) : Host.Outcome State Fault Refusal := .next (s.setOp 5 .e)
/-- `SET 5,H` (R391). -/
def execSet5H (s : State) : Host.Outcome State Fault Refusal := .next (s.setOp 5 .h)
/-- `SET 5,L` (R391). -/
def execSet5L (s : State) : Host.Outcome State Fault Refusal := .next (s.setOp 5 .l)
/-- `SET 5,(HL)` (R391). -/
def execSet5AtHl (s : State) : Host.Outcome State Fault Refusal := .next (s.setOp 5 .atHl)
/-- `SET 5,A` (R391). -/
def execSet5A (s : State) : Host.Outcome State Fault Refusal := .next (s.setOp 5 .a)
/-- `SET 6,B` (R391). -/
def execSet6B (s : State) : Host.Outcome State Fault Refusal := .next (s.setOp 6 .b)
/-- `SET 6,C` (R391). -/
def execSet6C (s : State) : Host.Outcome State Fault Refusal := .next (s.setOp 6 .c)
/-- `SET 6,D` (R391). -/
def execSet6D (s : State) : Host.Outcome State Fault Refusal := .next (s.setOp 6 .d)
/-- `SET 6,E` (R391). -/
def execSet6E (s : State) : Host.Outcome State Fault Refusal := .next (s.setOp 6 .e)
/-- `SET 6,H` (R391). -/
def execSet6H (s : State) : Host.Outcome State Fault Refusal := .next (s.setOp 6 .h)
/-- `SET 6,L` (R391). -/
def execSet6L (s : State) : Host.Outcome State Fault Refusal := .next (s.setOp 6 .l)
/-- `SET 6,(HL)` (R391). -/
def execSet6AtHl (s : State) : Host.Outcome State Fault Refusal := .next (s.setOp 6 .atHl)
/-- `SET 6,A` (R391). -/
def execSet6A (s : State) : Host.Outcome State Fault Refusal := .next (s.setOp 6 .a)
/-- `SET 7,B` (R391). -/
def execSet7B (s : State) : Host.Outcome State Fault Refusal := .next (s.setOp 7 .b)
/-- `SET 7,C` (R391). -/
def execSet7C (s : State) : Host.Outcome State Fault Refusal := .next (s.setOp 7 .c)
/-- `SET 7,D` (R391). -/
def execSet7D (s : State) : Host.Outcome State Fault Refusal := .next (s.setOp 7 .d)
/-- `SET 7,E` (R391). -/
def execSet7E (s : State) : Host.Outcome State Fault Refusal := .next (s.setOp 7 .e)
/-- `SET 7,H` (R391). -/
def execSet7H (s : State) : Host.Outcome State Fault Refusal := .next (s.setOp 7 .h)
/-- `SET 7,L` (R391). -/
def execSet7L (s : State) : Host.Outcome State Fault Refusal := .next (s.setOp 7 .l)
/-- `SET 7,(HL)` (R391). -/
def execSet7AtHl (s : State) : Host.Outcome State Fault Refusal := .next (s.setOp 7 .atHl)
/-- `SET 7,A` (R391). -/
def execSet7A (s : State) : Host.Outcome State Fault Refusal := .next (s.setOp 7 .a)

end Sys2Proof.Machine
end

