-- ==== Sys2Proof/Machine/Control.lean ====
section
/-! DEFINITION. NOP, STOP, HALT, DI, EI, the CB prefix and the illegal opcodes (spec/43_block0.md R240, R242; 44_block1_ld8_halt.md R293; 46_block3.md R337 to R339, R352; 42_sequencer.md R216). -/

namespace Sys2Proof.Machine

/-- `HALT` under a value of `HALT_BUG` (R293). HALT "manages its own fetch": the step adds none. -/
def State.haltWith (s : State) (bug : Bool) : State :=
  if s.pending ≠ 0#8 then
    if bug && !s.ime then ((s.memRead s.pc).2.setIr (s.memRead s.pc).1).interruptCheck else s.fetchNext
  else s.setRun .halted

/-- `IME <- 0; ei_pending <- 0` (R338). -/
def State.disableInterrupts (s : State) : State := (s.setIme false).setEiPending false

/-- `op2 <- Imm8(); IR <- op2` (R216). The rest of R216, decoding `op2` with the prefixed table and executing it, is done by
the step (log 8). -/
def State.selectPrefixed (s : State) : State := s.imm8.2.setIr s.imm8.1

/-- `NOP` (R240). -/
def execNop (s : State) : Host.Outcome State Fault Refusal := .next s
/-- `STOP` (R242). -/
def execStop (s : State) : Host.Outcome State Fault Refusal := .next (s.setRun .stopped)
/-- `HALT` (R293). -/
def execHalt (s : State) : Host.Outcome State Fault Refusal := .next (s.haltWith Config.haltBug)
/-- `PREFIX CB` (R337). -/
def execPrefixCb (s : State) : Host.Outcome State Fault Refusal := .next (s.selectPrefixed)
/-- The eleven illegal opcodes (R352). -/
def execIllegal (_op : Byte) (s : State) : Host.Outcome State Fault Refusal := .next (s.lockup)
/-- `DI` (R338). -/
def execDi (s : State) : Host.Outcome State Fault Refusal := .next (s.disableInterrupts)
/-- `EI` (R339). -/
def execEi (s : State) : Host.Outcome State Fault Refusal := .next (s.setEiPending true)

end Sys2Proof.Machine
end

