-- ==== Sys2Proof/Machine/Jumps.lean ====
section
/-! DEFINITION. Jumps, calls, returns, restarts (spec/43_block0.md R243, R244; 46_block3.md R320, R327 to R329, R331, R336, R340, R342, R351). The return from an interrupt is RETI (R328, R409). -/

namespace Sys2Proof.Machine

/-- `PC <- PC +_16 sext_16(e); Tick()` (R243). -/
def State.jumpRelative (s : State) (e : Byte) : State := (s.setPc (s.pc + sext16 e)).idle

/-- `JR cc`: the jump if the condition holds (R244). -/
def State.jumpRelativeIf (s : State) (cc : Cond) (e : Byte) : State := if s.cond cc then s.jumpRelative e else s

/-- `PC <- a; Tick()` (R336). -/
def State.jump (s : State) (a : Word) : State := (s.setPc a).idle

/-- `JP cc`: the jump if the condition holds (R331). -/
def State.jumpIf (s : State) (cc : Cond) (a : Word) : State := if s.cond cc then s.jump a else s

/-- `Tick(); Push16(PC); PC <- a` (R342). -/
def State.call (s : State) (a : Word) : State := (s.idle.push16 s.pc).setPc a

/-- `CALL cc`: the call if the condition holds (R340). -/
def State.callIf (s : State) (cc : Cond) (a : Word) : State := if s.cond cc then s.call a else s

/-- `PC <- Pop16(); Tick()` (R327). -/
def State.ret (s : State) : State := (s.pop16.2.setPc s.pop16.1).idle

/-- `RET cc`: one internal cycle, then the return if the condition holds (R320). -/
def State.retIf (s : State) (cc : Cond) : State := if s.cond cc then s.idle.ret else s.idle

/-- `PC <- Pop16(); IME <- 1; ei_pending <- 0; Tick()` (R328). -/
def State.reti (s : State) : State := (((s.pop16.2.setPc s.pop16.1).setIme true).setEiPending false).idle

/-- `Tick(); Push16(PC); PC <- {0x00, y * 8}` (R351). -/
def State.restart (s : State) (target : Word) : State := (s.idle.push16 s.pc).setPc target

/-- `JR e8` (R243). -/
def execJrE8 (e : Byte) (s : State) : Host.Outcome State Fault Refusal := .next (s.jumpRelative e)
/-- `JR NZ,e8` (R244). -/
def execJrNzE8 (e : Byte) (s : State) : Host.Outcome State Fault Refusal := .next (s.jumpRelativeIf .nz e)
/-- `JR Z,e8` (R244). -/
def execJrZE8 (e : Byte) (s : State) : Host.Outcome State Fault Refusal := .next (s.jumpRelativeIf .z e)
/-- `JR NC,e8` (R244). -/
def execJrNcE8 (e : Byte) (s : State) : Host.Outcome State Fault Refusal := .next (s.jumpRelativeIf .nc e)
/-- `JR C,e8` (R244). -/
def execJrCE8 (e : Byte) (s : State) : Host.Outcome State Fault Refusal := .next (s.jumpRelativeIf .c e)
/-- `RET NZ` (R320). -/
def execRetNz (s : State) : Host.Outcome State Fault Refusal := .next (s.retIf .nz)
/-- `JP NZ,a16` (R331). -/
def execJpNzA16 (a : Word) (s : State) : Host.Outcome State Fault Refusal := .next (s.jumpIf .nz a)
/-- `JP a16` (R336). -/
def execJpA16 (a : Word) (s : State) : Host.Outcome State Fault Refusal := .next (s.jump a)
/-- `CALL NZ,a16` (R340). -/
def execCallNzA16 (a : Word) (s : State) : Host.Outcome State Fault Refusal := .next (s.callIf .nz a)
/-- `RST 00H` (R351). -/
def execRst00 (s : State) : Host.Outcome State Fault Refusal := .next (s.restart 0x0000#16)
/-- `RET Z` (R320). -/
def execRetZ (s : State) : Host.Outcome State Fault Refusal := .next (s.retIf .z)
/-- `RET` (R327). -/
def execRet (s : State) : Host.Outcome State Fault Refusal := .next (s.ret)
/-- `JP Z,a16` (R331). -/
def execJpZA16 (a : Word) (s : State) : Host.Outcome State Fault Refusal := .next (s.jumpIf .z a)
/-- `CALL Z,a16` (R340). -/
def execCallZA16 (a : Word) (s : State) : Host.Outcome State Fault Refusal := .next (s.callIf .z a)
/-- `CALL a16` (R342). -/
def execCallA16 (a : Word) (s : State) : Host.Outcome State Fault Refusal := .next (s.call a)
/-- `RST 08H` (R351). -/
def execRst08 (s : State) : Host.Outcome State Fault Refusal := .next (s.restart 0x0008#16)
/-- `RET NC` (R320). -/
def execRetNc (s : State) : Host.Outcome State Fault Refusal := .next (s.retIf .nc)
/-- `JP NC,a16` (R331). -/
def execJpNcA16 (a : Word) (s : State) : Host.Outcome State Fault Refusal := .next (s.jumpIf .nc a)
/-- `CALL NC,a16` (R340). -/
def execCallNcA16 (a : Word) (s : State) : Host.Outcome State Fault Refusal := .next (s.callIf .nc a)
/-- `RST 10H` (R351). -/
def execRst10 (s : State) : Host.Outcome State Fault Refusal := .next (s.restart 0x0010#16)
/-- `RET C` (R320). -/
def execRetC (s : State) : Host.Outcome State Fault Refusal := .next (s.retIf .c)
/-- `RETI` (R328). -/
def execReti (s : State) : Host.Outcome State Fault Refusal := .next (s.reti)
/-- `JP C,a16` (R331). -/
def execJpCA16 (a : Word) (s : State) : Host.Outcome State Fault Refusal := .next (s.jumpIf .c a)
/-- `CALL C,a16` (R340). -/
def execCallCA16 (a : Word) (s : State) : Host.Outcome State Fault Refusal := .next (s.callIf .c a)
/-- `RST 18H` (R351). -/
def execRst18 (s : State) : Host.Outcome State Fault Refusal := .next (s.restart 0x0018#16)
/-- `RST 20H` (R351). -/
def execRst20 (s : State) : Host.Outcome State Fault Refusal := .next (s.restart 0x0020#16)
/-- `JP HL` (R329). -/
def execJpHl (s : State) : Host.Outcome State Fault Refusal := .next (s.setPc s.hl)
/-- `RST 28H` (R351). -/
def execRst28 (s : State) : Host.Outcome State Fault Refusal := .next (s.restart 0x0028#16)
/-- `RST 30H` (R351). -/
def execRst30 (s : State) : Host.Outcome State Fault Refusal := .next (s.restart 0x0030#16)
/-- `RST 38H` (R351). -/
def execRst38 (s : State) : Host.Outcome State Fault Refusal := .next (s.restart 0x0038#16)

end Sys2Proof.Machine
end

