-- ==== Sys2Proof/Machine/Loads16.lean ====
section
/-! DEFINITION. The 16-bit loads (spec/43_block0.md R241, R245; 46_block3.md R324, R330). -/

namespace Sys2Proof.Machine

/-- `MemWrite(a, 1, SP[7:0]); MemWrite(a +_16 1, 1, SP[15:8])` (R241). -/
def State.storeSp (s : State) (addr : Word) : State :=
  (s.memWrite addr (loByte s.sp)).memWrite (addr + 1) (hiByte s.sp)

/-- `(v, f) <- alu.sp_plus_e(SP, e); HL <- v; apply(f); Tick()` (R324). -/
def State.loadHlSpPlus (s : State) (e : Byte) : State :=
  ((s.setHL (Alu.spPlusE s.sp e).1).applyFlags (Alu.spPlusE s.sp e).2).idle

/-- `LD BC,d16` (R245). -/
def execLdBcD16 (v : Word) (s : State) : Host.Outcome State Fault Refusal := .next (s.setRp .bc v)
/-- `LD (a16),SP` (R241). -/
def execLdAtA16Sp (a : Word) (s : State) : Host.Outcome State Fault Refusal := .next (s.storeSp a)
/-- `LD DE,d16` (R245). -/
def execLdDeD16 (v : Word) (s : State) : Host.Outcome State Fault Refusal := .next (s.setRp .de v)
/-- `LD HL,d16` (R245). -/
def execLdHlD16 (v : Word) (s : State) : Host.Outcome State Fault Refusal := .next (s.setRp .hl v)
/-- `LD SP,d16` (R245). -/
def execLdSpD16 (v : Word) (s : State) : Host.Outcome State Fault Refusal := .next (s.setRp .sp v)
/-- `LD HL,SP+e8` (R324). -/
def execLdHlSpE8 (e : Byte) (s : State) : Host.Outcome State Fault Refusal := .next (s.loadHlSpPlus e)
/-- `LD SP,HL` (R330). -/
def execLdSpHl (s : State) : Host.Outcome State Fault Refusal := .next ((s.setSp s.hl).idle)

end Sys2Proof.Machine
end

