-- ==== Sys2Proof/Machine/Loads8.lean ====
section
/-! DEFINITION. The 8-bit loads (spec/43_block0.md R247 to R254, R261, R262; 44_block1_ld8_halt.md R290 to R292; 46_block3.md R321, R323, R332 to R335). -/

namespace Sys2Proof.Machine

/-- `r8[y] <- r8[z]` (R290 to R292). -/
def State.copyR8 (s : State) (dst src : R8) : State := (s.readR8 src).2.writeR8 dst (s.readR8 src).1

/-- `A <- MemRead(addr, 1)` (R323, R334, R335). -/
def State.loadA (s : State) (addr : Word) : State := (s.memRead addr).2.setA (s.memRead addr).1

/-- `MemWrite(pointer, 1, A)`, then the pointer's update (R247 to R250). -/
def State.storeAInd (s : State) (m : Ind) : State := (s.memWrite (s.indAddr m) s.a).indUpdate m

/-- `A <- MemRead(pointer, 1)`, then the pointer's update (R251 to R254). -/
def State.loadAInd (s : State) (m : Ind) : State := (s.loadA (s.indAddr m)).indUpdate m

/-- `LD (BC),A` (R247). -/
def execLdAtBcA (s : State) : Host.Outcome State Fault Refusal := .next (s.storeAInd .bc)
/-- `LD B,d8` (R261). -/
def execLdBD8 (v : Byte) (s : State) : Host.Outcome State Fault Refusal := .next (s.writeR8 .b v)
/-- `LD A,(BC)` (R251). -/
def execLdAAtBc (s : State) : Host.Outcome State Fault Refusal := .next (s.loadAInd .bc)
/-- `LD C,d8` (R261). -/
def execLdCD8 (v : Byte) (s : State) : Host.Outcome State Fault Refusal := .next (s.writeR8 .c v)
/-- `LD (DE),A` (R248). -/
def execLdAtDeA (s : State) : Host.Outcome State Fault Refusal := .next (s.storeAInd .de)
/-- `LD D,d8` (R261). -/
def execLdDD8 (v : Byte) (s : State) : Host.Outcome State Fault Refusal := .next (s.writeR8 .d v)
/-- `LD A,(DE)` (R252). -/
def execLdAAtDe (s : State) : Host.Outcome State Fault Refusal := .next (s.loadAInd .de)
/-- `LD E,d8` (R261). -/
def execLdED8 (v : Byte) (s : State) : Host.Outcome State Fault Refusal := .next (s.writeR8 .e v)
/-- `LD (HL+),A` (R249). -/
def execLdAtHlIncA (s : State) : Host.Outcome State Fault Refusal := .next (s.storeAInd .hlInc)
/-- `LD H,d8` (R261). -/
def execLdHD8 (v : Byte) (s : State) : Host.Outcome State Fault Refusal := .next (s.writeR8 .h v)
/-- `LD A,(HL+)` (R253). -/
def execLdAAtHlInc (s : State) : Host.Outcome State Fault Refusal := .next (s.loadAInd .hlInc)
/-- `LD L,d8` (R261). -/
def execLdLD8 (v : Byte) (s : State) : Host.Outcome State Fault Refusal := .next (s.writeR8 .l v)
/-- `LD (HL-),A` (R250). -/
def execLdAtHlDecA (s : State) : Host.Outcome State Fault Refusal := .next (s.storeAInd .hlDec)
/-- `LD (HL),d8` (R262). -/
def execLdAtHlD8 (v : Byte) (s : State) : Host.Outcome State Fault Refusal := .next (s.writeR8 .atHl v)
/-- `LD A,(HL-)` (R254). -/
def execLdAAtHlDec (s : State) : Host.Outcome State Fault Refusal := .next (s.loadAInd .hlDec)
/-- `LD A,d8` (R261). -/
def execLdAD8 (v : Byte) (s : State) : Host.Outcome State Fault Refusal := .next (s.writeR8 .a v)
/-- `LD B,B` (R290). -/
def execLdBB (s : State) : Host.Outcome State Fault Refusal := .next (s.copyR8 .b .b)
/-- `LD B,C` (R290). -/
def execLdBC (s : State) : Host.Outcome State Fault Refusal := .next (s.copyR8 .b .c)
/-- `LD B,D` (R290). -/
def execLdBD (s : State) : Host.Outcome State Fault Refusal := .next (s.copyR8 .b .d)
/-- `LD B,E` (R290). -/
def execLdBE (s : State) : Host.Outcome State Fault Refusal := .next (s.copyR8 .b .e)
/-- `LD B,H` (R290). -/
def execLdBH (s : State) : Host.Outcome State Fault Refusal := .next (s.copyR8 .b .h)
/-- `LD B,L` (R290). -/
def execLdBL (s : State) : Host.Outcome State Fault Refusal := .next (s.copyR8 .b .l)
/-- `LD B,(HL)` (R291). -/
def execLdBAtHl (s : State) : Host.Outcome State Fault Refusal := .next (s.copyR8 .b .atHl)
/-- `LD B,A` (R290). -/
def execLdBA (s : State) : Host.Outcome State Fault Refusal := .next (s.copyR8 .b .a)
/-- `LD C,B` (R290). -/
def execLdCB (s : State) : Host.Outcome State Fault Refusal := .next (s.copyR8 .c .b)
/-- `LD C,C` (R290). -/
def execLdCC (s : State) : Host.Outcome State Fault Refusal := .next (s.copyR8 .c .c)
/-- `LD C,D` (R290). -/
def execLdCD (s : State) : Host.Outcome State Fault Refusal := .next (s.copyR8 .c .d)
/-- `LD C,E` (R290). -/
def execLdCE (s : State) : Host.Outcome State Fault Refusal := .next (s.copyR8 .c .e)
/-- `LD C,H` (R290). -/
def execLdCH (s : State) : Host.Outcome State Fault Refusal := .next (s.copyR8 .c .h)
/-- `LD C,L` (R290). -/
def execLdCL (s : State) : Host.Outcome State Fault Refusal := .next (s.copyR8 .c .l)
/-- `LD C,(HL)` (R291). -/
def execLdCAtHl (s : State) : Host.Outcome State Fault Refusal := .next (s.copyR8 .c .atHl)
/-- `LD C,A` (R290). -/
def execLdCA (s : State) : Host.Outcome State Fault Refusal := .next (s.copyR8 .c .a)
/-- `LD D,B` (R290). -/
def execLdDB (s : State) : Host.Outcome State Fault Refusal := .next (s.copyR8 .d .b)
/-- `LD D,C` (R290). -/
def execLdDC (s : State) : Host.Outcome State Fault Refusal := .next (s.copyR8 .d .c)
/-- `LD D,D` (R290). -/
def execLdDD (s : State) : Host.Outcome State Fault Refusal := .next (s.copyR8 .d .d)
/-- `LD D,E` (R290). -/
def execLdDE (s : State) : Host.Outcome State Fault Refusal := .next (s.copyR8 .d .e)
/-- `LD D,H` (R290). -/
def execLdDH (s : State) : Host.Outcome State Fault Refusal := .next (s.copyR8 .d .h)
/-- `LD D,L` (R290). -/
def execLdDL (s : State) : Host.Outcome State Fault Refusal := .next (s.copyR8 .d .l)
/-- `LD D,(HL)` (R291). -/
def execLdDAtHl (s : State) : Host.Outcome State Fault Refusal := .next (s.copyR8 .d .atHl)
/-- `LD D,A` (R290). -/
def execLdDA (s : State) : Host.Outcome State Fault Refusal := .next (s.copyR8 .d .a)
/-- `LD E,B` (R290). -/
def execLdEB (s : State) : Host.Outcome State Fault Refusal := .next (s.copyR8 .e .b)
/-- `LD E,C` (R290). -/
def execLdEC (s : State) : Host.Outcome State Fault Refusal := .next (s.copyR8 .e .c)
/-- `LD E,D` (R290). -/
def execLdED (s : State) : Host.Outcome State Fault Refusal := .next (s.copyR8 .e .d)
/-- `LD E,E` (R290). -/
def execLdEE (s : State) : Host.Outcome State Fault Refusal := .next (s.copyR8 .e .e)
/-- `LD E,H` (R290). -/
def execLdEH (s : State) : Host.Outcome State Fault Refusal := .next (s.copyR8 .e .h)
/-- `LD E,L` (R290). -/
def execLdEL (s : State) : Host.Outcome State Fault Refusal := .next (s.copyR8 .e .l)
/-- `LD E,(HL)` (R291). -/
def execLdEAtHl (s : State) : Host.Outcome State Fault Refusal := .next (s.copyR8 .e .atHl)
/-- `LD E,A` (R290). -/
def execLdEA (s : State) : Host.Outcome State Fault Refusal := .next (s.copyR8 .e .a)
/-- `LD H,B` (R290). -/
def execLdHB (s : State) : Host.Outcome State Fault Refusal := .next (s.copyR8 .h .b)
/-- `LD H,C` (R290). -/
def execLdHC (s : State) : Host.Outcome State Fault Refusal := .next (s.copyR8 .h .c)
/-- `LD H,D` (R290). -/
def execLdHD (s : State) : Host.Outcome State Fault Refusal := .next (s.copyR8 .h .d)
/-- `LD H,E` (R290). -/
def execLdHE (s : State) : Host.Outcome State Fault Refusal := .next (s.copyR8 .h .e)
/-- `LD H,H` (R290). -/
def execLdHH (s : State) : Host.Outcome State Fault Refusal := .next (s.copyR8 .h .h)
/-- `LD H,L` (R290). -/
def execLdHL (s : State) : Host.Outcome State Fault Refusal := .next (s.copyR8 .h .l)
/-- `LD H,(HL)` (R291). -/
def execLdHAtHl (s : State) : Host.Outcome State Fault Refusal := .next (s.copyR8 .h .atHl)
/-- `LD H,A` (R290). -/
def execLdHA (s : State) : Host.Outcome State Fault Refusal := .next (s.copyR8 .h .a)
/-- `LD L,B` (R290). -/
def execLdLB (s : State) : Host.Outcome State Fault Refusal := .next (s.copyR8 .l .b)
/-- `LD L,C` (R290). -/
def execLdLC (s : State) : Host.Outcome State Fault Refusal := .next (s.copyR8 .l .c)
/-- `LD L,D` (R290). -/
def execLdLD (s : State) : Host.Outcome State Fault Refusal := .next (s.copyR8 .l .d)
/-- `LD L,E` (R290). -/
def execLdLE (s : State) : Host.Outcome State Fault Refusal := .next (s.copyR8 .l .e)
/-- `LD L,H` (R290). -/
def execLdLH (s : State) : Host.Outcome State Fault Refusal := .next (s.copyR8 .l .h)
/-- `LD L,L` (R290). -/
def execLdLL (s : State) : Host.Outcome State Fault Refusal := .next (s.copyR8 .l .l)
/-- `LD L,(HL)` (R291). -/
def execLdLAtHl (s : State) : Host.Outcome State Fault Refusal := .next (s.copyR8 .l .atHl)
/-- `LD L,A` (R290). -/
def execLdLA (s : State) : Host.Outcome State Fault Refusal := .next (s.copyR8 .l .a)
/-- `LD (HL),B` (R292). -/
def execLdAtHlB (s : State) : Host.Outcome State Fault Refusal := .next (s.copyR8 .atHl .b)
/-- `LD (HL),C` (R292). -/
def execLdAtHlC (s : State) : Host.Outcome State Fault Refusal := .next (s.copyR8 .atHl .c)
/-- `LD (HL),D` (R292). -/
def execLdAtHlD (s : State) : Host.Outcome State Fault Refusal := .next (s.copyR8 .atHl .d)
/-- `LD (HL),E` (R292). -/
def execLdAtHlE (s : State) : Host.Outcome State Fault Refusal := .next (s.copyR8 .atHl .e)
/-- `LD (HL),H` (R292). -/
def execLdAtHlH (s : State) : Host.Outcome State Fault Refusal := .next (s.copyR8 .atHl .h)
/-- `LD (HL),L` (R292). -/
def execLdAtHlL (s : State) : Host.Outcome State Fault Refusal := .next (s.copyR8 .atHl .l)
/-- `LD (HL),A` (R292). -/
def execLdAtHlA (s : State) : Host.Outcome State Fault Refusal := .next (s.copyR8 .atHl .a)
/-- `LD A,B` (R290). -/
def execLdAB (s : State) : Host.Outcome State Fault Refusal := .next (s.copyR8 .a .b)
/-- `LD A,C` (R290). -/
def execLdAC (s : State) : Host.Outcome State Fault Refusal := .next (s.copyR8 .a .c)
/-- `LD A,D` (R290). -/
def execLdAD (s : State) : Host.Outcome State Fault Refusal := .next (s.copyR8 .a .d)
/-- `LD A,E` (R290). -/
def execLdAE (s : State) : Host.Outcome State Fault Refusal := .next (s.copyR8 .a .e)
/-- `LD A,H` (R290). -/
def execLdAH (s : State) : Host.Outcome State Fault Refusal := .next (s.copyR8 .a .h)
/-- `LD A,L` (R290). -/
def execLdAL (s : State) : Host.Outcome State Fault Refusal := .next (s.copyR8 .a .l)
/-- `LD A,(HL)` (R291). -/
def execLdAAtHl (s : State) : Host.Outcome State Fault Refusal := .next (s.copyR8 .a .atHl)
/-- `LD A,A` (R290). -/
def execLdAA (s : State) : Host.Outcome State Fault Refusal := .next (s.copyR8 .a .a)
/-- `LDH (a8),A` (R321). -/
def execLdhAtA8A (a : Byte) (s : State) : Host.Outcome State Fault Refusal := .next (s.memWrite (highPage a) s.a)
/-- `LD (C),A` (R332). -/
def execLdAtCA (s : State) : Host.Outcome State Fault Refusal := .next (s.memWrite (highPage s.c) s.a)
/-- `LD (a16),A` (R333). -/
def execLdAtA16A (a : Word) (s : State) : Host.Outcome State Fault Refusal := .next (s.memWrite a s.a)
/-- `LDH A,(a8)` (R323). -/
def execLdhAAtA8 (a : Byte) (s : State) : Host.Outcome State Fault Refusal := .next (s.loadA (highPage a))
/-- `LD A,(C)` (R334). -/
def execLdAAtC (s : State) : Host.Outcome State Fault Refusal := .next (s.loadA (highPage s.c))
/-- `LD A,(a16)` (R335). -/
def execLdAAtA16 (a : Word) (s : State) : Host.Outcome State Fault Refusal := .next (s.loadA a)

end Sys2Proof.Machine
end

