-- ==== Sys2Proof/Machine/Rotates.lean ====
section
/-! DEFINITION. The CB-prefixed rotates, shifts and SWAP (spec/47_cb_prefixed.md R380 to R388). -/

namespace Sys2Proof.Machine

/-- `v <- r8[z]; (w, f) <- alu.<op>(v ...); r8[z] <- w; apply(f)` (R381 to R388). -/
def State.rotOp (s : State) (op : RotOp) (r : R8) : State :=
  let v := s.readR8 r
  let w := s.rotResult op v.1
  (v.2.writeR8 r w.1).applyFlags w.2

/-- `RLC B` (R381). -/
def execRlcB (s : State) : Host.Outcome State Fault Refusal := .next (s.rotOp .rlc .b)
/-- `RLC C` (R381). -/
def execRlcC (s : State) : Host.Outcome State Fault Refusal := .next (s.rotOp .rlc .c)
/-- `RLC D` (R381). -/
def execRlcD (s : State) : Host.Outcome State Fault Refusal := .next (s.rotOp .rlc .d)
/-- `RLC E` (R381). -/
def execRlcE (s : State) : Host.Outcome State Fault Refusal := .next (s.rotOp .rlc .e)
/-- `RLC H` (R381). -/
def execRlcH (s : State) : Host.Outcome State Fault Refusal := .next (s.rotOp .rlc .h)
/-- `RLC L` (R381). -/
def execRlcL (s : State) : Host.Outcome State Fault Refusal := .next (s.rotOp .rlc .l)
/-- `RLC (HL)` (R381). -/
def execRlcAtHl (s : State) : Host.Outcome State Fault Refusal := .next (s.rotOp .rlc .atHl)
/-- `RLC A` (R381). -/
def execRlcA (s : State) : Host.Outcome State Fault Refusal := .next (s.rotOp .rlc .a)
/-- `RRC B` (R382). -/
def execRrcB (s : State) : Host.Outcome State Fault Refusal := .next (s.rotOp .rrc .b)
/-- `RRC C` (R382). -/
def execRrcC (s : State) : Host.Outcome State Fault Refusal := .next (s.rotOp .rrc .c)
/-- `RRC D` (R382). -/
def execRrcD (s : State) : Host.Outcome State Fault Refusal := .next (s.rotOp .rrc .d)
/-- `RRC E` (R382). -/
def execRrcE (s : State) : Host.Outcome State Fault Refusal := .next (s.rotOp .rrc .e)
/-- `RRC H` (R382). -/
def execRrcH (s : State) : Host.Outcome State Fault Refusal := .next (s.rotOp .rrc .h)
/-- `RRC L` (R382). -/
def execRrcL (s : State) : Host.Outcome State Fault Refusal := .next (s.rotOp .rrc .l)
/-- `RRC (HL)` (R382). -/
def execRrcAtHl (s : State) : Host.Outcome State Fault Refusal := .next (s.rotOp .rrc .atHl)
/-- `RRC A` (R382). -/
def execRrcA (s : State) : Host.Outcome State Fault Refusal := .next (s.rotOp .rrc .a)
/-- `RL B` (R383). -/
def execRlB (s : State) : Host.Outcome State Fault Refusal := .next (s.rotOp .rl .b)
/-- `RL C` (R383). -/
def execRlC (s : State) : Host.Outcome State Fault Refusal := .next (s.rotOp .rl .c)
/-- `RL D` (R383). -/
def execRlD (s : State) : Host.Outcome State Fault Refusal := .next (s.rotOp .rl .d)
/-- `RL E` (R383). -/
def execRlE (s : State) : Host.Outcome State Fault Refusal := .next (s.rotOp .rl .e)
/-- `RL H` (R383). -/
def execRlH (s : State) : Host.Outcome State Fault Refusal := .next (s.rotOp .rl .h)
/-- `RL L` (R383). -/
def execRlL (s : State) : Host.Outcome State Fault Refusal := .next (s.rotOp .rl .l)
/-- `RL (HL)` (R383). -/
def execRlAtHl (s : State) : Host.Outcome State Fault Refusal := .next (s.rotOp .rl .atHl)
/-- `RL A` (R383). -/
def execRlA (s : State) : Host.Outcome State Fault Refusal := .next (s.rotOp .rl .a)
/-- `RR B` (R384). -/
def execRrB (s : State) : Host.Outcome State Fault Refusal := .next (s.rotOp .rr .b)
/-- `RR C` (R384). -/
def execRrC (s : State) : Host.Outcome State Fault Refusal := .next (s.rotOp .rr .c)
/-- `RR D` (R384). -/
def execRrD (s : State) : Host.Outcome State Fault Refusal := .next (s.rotOp .rr .d)
/-- `RR E` (R384). -/
def execRrE (s : State) : Host.Outcome State Fault Refusal := .next (s.rotOp .rr .e)
/-- `RR H` (R384). -/
def execRrH (s : State) : Host.Outcome State Fault Refusal := .next (s.rotOp .rr .h)
/-- `RR L` (R384). -/
def execRrL (s : State) : Host.Outcome State Fault Refusal := .next (s.rotOp .rr .l)
/-- `RR (HL)` (R384). -/
def execRrAtHl (s : State) : Host.Outcome State Fault Refusal := .next (s.rotOp .rr .atHl)
/-- `RR A` (R384). -/
def execRrA (s : State) : Host.Outcome State Fault Refusal := .next (s.rotOp .rr .a)
/-- `SLA B` (R385). -/
def execSlaB (s : State) : Host.Outcome State Fault Refusal := .next (s.rotOp .sla .b)
/-- `SLA C` (R385). -/
def execSlaC (s : State) : Host.Outcome State Fault Refusal := .next (s.rotOp .sla .c)
/-- `SLA D` (R385). -/
def execSlaD (s : State) : Host.Outcome State Fault Refusal := .next (s.rotOp .sla .d)
/-- `SLA E` (R385). -/
def execSlaE (s : State) : Host.Outcome State Fault Refusal := .next (s.rotOp .sla .e)
/-- `SLA H` (R385). -/
def execSlaH (s : State) : Host.Outcome State Fault Refusal := .next (s.rotOp .sla .h)
/-- `SLA L` (R385). -/
def execSlaL (s : State) : Host.Outcome State Fault Refusal := .next (s.rotOp .sla .l)
/-- `SLA (HL)` (R385). -/
def execSlaAtHl (s : State) : Host.Outcome State Fault Refusal := .next (s.rotOp .sla .atHl)
/-- `SLA A` (R385). -/
def execSlaA (s : State) : Host.Outcome State Fault Refusal := .next (s.rotOp .sla .a)
/-- `SRA B` (R386). -/
def execSraB (s : State) : Host.Outcome State Fault Refusal := .next (s.rotOp .sra .b)
/-- `SRA C` (R386). -/
def execSraC (s : State) : Host.Outcome State Fault Refusal := .next (s.rotOp .sra .c)
/-- `SRA D` (R386). -/
def execSraD (s : State) : Host.Outcome State Fault Refusal := .next (s.rotOp .sra .d)
/-- `SRA E` (R386). -/
def execSraE (s : State) : Host.Outcome State Fault Refusal := .next (s.rotOp .sra .e)
/-- `SRA H` (R386). -/
def execSraH (s : State) : Host.Outcome State Fault Refusal := .next (s.rotOp .sra .h)
/-- `SRA L` (R386). -/
def execSraL (s : State) : Host.Outcome State Fault Refusal := .next (s.rotOp .sra .l)
/-- `SRA (HL)` (R386). -/
def execSraAtHl (s : State) : Host.Outcome State Fault Refusal := .next (s.rotOp .sra .atHl)
/-- `SRA A` (R386). -/
def execSraA (s : State) : Host.Outcome State Fault Refusal := .next (s.rotOp .sra .a)
/-- `SWAP B` (R387). -/
def execSwapB (s : State) : Host.Outcome State Fault Refusal := .next (s.rotOp .swap .b)
/-- `SWAP C` (R387). -/
def execSwapC (s : State) : Host.Outcome State Fault Refusal := .next (s.rotOp .swap .c)
/-- `SWAP D` (R387). -/
def execSwapD (s : State) : Host.Outcome State Fault Refusal := .next (s.rotOp .swap .d)
/-- `SWAP E` (R387). -/
def execSwapE (s : State) : Host.Outcome State Fault Refusal := .next (s.rotOp .swap .e)
/-- `SWAP H` (R387). -/
def execSwapH (s : State) : Host.Outcome State Fault Refusal := .next (s.rotOp .swap .h)
/-- `SWAP L` (R387). -/
def execSwapL (s : State) : Host.Outcome State Fault Refusal := .next (s.rotOp .swap .l)
/-- `SWAP (HL)` (R387). -/
def execSwapAtHl (s : State) : Host.Outcome State Fault Refusal := .next (s.rotOp .swap .atHl)
/-- `SWAP A` (R387). -/
def execSwapA (s : State) : Host.Outcome State Fault Refusal := .next (s.rotOp .swap .a)
/-- `SRL B` (R388). -/
def execSrlB (s : State) : Host.Outcome State Fault Refusal := .next (s.rotOp .srl .b)
/-- `SRL C` (R388). -/
def execSrlC (s : State) : Host.Outcome State Fault Refusal := .next (s.rotOp .srl .c)
/-- `SRL D` (R388). -/
def execSrlD (s : State) : Host.Outcome State Fault Refusal := .next (s.rotOp .srl .d)
/-- `SRL E` (R388). -/
def execSrlE (s : State) : Host.Outcome State Fault Refusal := .next (s.rotOp .srl .e)
/-- `SRL H` (R388). -/
def execSrlH (s : State) : Host.Outcome State Fault Refusal := .next (s.rotOp .srl .h)
/-- `SRL L` (R388). -/
def execSrlL (s : State) : Host.Outcome State Fault Refusal := .next (s.rotOp .srl .l)
/-- `SRL (HL)` (R388). -/
def execSrlAtHl (s : State) : Host.Outcome State Fault Refusal := .next (s.rotOp .srl .atHl)
/-- `SRL A` (R388). -/
def execSrlA (s : State) : Host.Outcome State Fault Refusal := .next (s.rotOp .srl .a)

end Sys2Proof.Machine
end

