-- ==== Sys2Proof/Machine/Stack.lean ====
section
/-! DEFINITION. PUSH and POP (spec/46_block3.md R325, R326, R341). -/

namespace Sys2Proof.Machine

/-- `Tick(); Push16(rp2[p])` (R341). -/
def State.pushPair (s : State) (p : Rp2) : State := s.idle.push16 (s.getRp2 p)

/-- `rp2[p] <- Pop16()` (R325); for AF `F <- v[7:0] & 0xF0` (R326). -/
def State.popPair (s : State) (p : Rp2) : State := s.pop16.2.setRp2 p s.pop16.1

/-- `POP BC` (R325). -/
def execPopBc (s : State) : Host.Outcome State Fault Refusal := .next (s.popPair .bc)
/-- `PUSH BC` (R341). -/
def execPushBc (s : State) : Host.Outcome State Fault Refusal := .next (s.pushPair .bc)
/-- `POP DE` (R325). -/
def execPopDe (s : State) : Host.Outcome State Fault Refusal := .next (s.popPair .de)
/-- `PUSH DE` (R341). -/
def execPushDe (s : State) : Host.Outcome State Fault Refusal := .next (s.pushPair .de)
/-- `POP HL` (R325). -/
def execPopHl (s : State) : Host.Outcome State Fault Refusal := .next (s.popPair .hl)
/-- `PUSH HL` (R341). -/
def execPushHl (s : State) : Host.Outcome State Fault Refusal := .next (s.pushPair .hl)
/-- `POP AF` (R326). -/
def execPopAf (s : State) : Host.Outcome State Fault Refusal := .next (s.popPair .af)
/-- `PUSH AF` (R341). -/
def execPushAf (s : State) : Host.Outcome State Fault Refusal := .next (s.pushPair .af)

end Sys2Proof.Machine
end

