-- ==== Sys2Proof/WellFormed.lean ====
section
/-! DEFINITION. What a term of `Instr` must satisfy to be an instruction, and the names a decoder rejects bytes by
(spec/30_encoding.md R100, R90). -/

namespace Sys2Proof

/-- The eleven illegal opcodes (R100). -/
def illegalOpcodes : List Byte := [0xD3, 0xDB, 0xDD, 0xE3, 0xE4, 0xEB, 0xEC, 0xED, 0xF4, 0xFC, 0xFD]

/-- A well-formed instruction: the only operand a term could get wrong is the byte of an illegal opcode, which must be one
of the eleven of R100 (log 12). -/
def Instr.wellFormed : Instr → Bool
  | .illegal op => illegalOpcodes.contains op
  | _ => true

/-- Why a list of bytes does not decode. -/
inductive DecodeError where
  /-- There is no byte at all. -/
  | noOpcode
  /-- The opcode's format has an immediate (R90) and the list ends before it. -/
  | missingImmediate
deriving DecidableEq, Repr

end Sys2Proof
end

