-- ==== Sys2Proof/Decode.lean ====
section
/-! DEFINITION. The opcode decoder and, after it, the encoder (spec/30_encoding.md R90 to R106). The decoder follows the
field rules R91, R92 and R95 to R99; the encoder is written from the opcode column of the table, row by row. -/

namespace Sys2Proof

/-! ### Fields (R91) -/

/-- Field x, bits 7:6. -/
def opX (op : Byte) : Nat := (op.extractLsb' 6 2).toNat
/-- Field y, bits 5:3. -/
def opY (op : Byte) : Nat := (op.extractLsb' 3 3).toNat
/-- Field z, bits 2:0. -/
def opZ (op : Byte) : Nat := (op.extractLsb' 0 3).toNat
/-- Field p, bits 5:4. -/
def opP (op : Byte) : Nat := (op.extractLsb' 4 2).toNat
/-- Field q, bit 3. -/
def opQ (op : Byte) : Nat := (op.extractLsb' 3 1).toNat

/-! ### Index tables (R92). A field of three bits is at most 7, one of two bits at most 3. -/

/-- Table `r` of R92. -/
def R8.ofIndex (i : Nat) : R8 :=
  match i with
  | 0 => .b
  | 1 => .c
  | 2 => .d
  | 3 => .e
  | 4 => .h
  | 5 => .l
  | 6 => .atHl
  | _ => .a

/-- Table `rp` of R92. -/
def Rp.ofIndex (i : Nat) : Rp :=
  match i with
  | 0 => .bc
  | 1 => .de
  | 2 => .hl
  | _ => .sp

/-- Table `rp2` of R92. -/
def Rp2.ofIndex (i : Nat) : Rp2 :=
  match i with
  | 0 => .bc
  | 1 => .de
  | 2 => .hl
  | _ => .af

/-- Table `cc` of R92. -/
def Cond.ofIndex (i : Nat) : Cond :=
  match i with
  | 0 => .nz
  | 1 => .z
  | 2 => .nc
  | _ => .c

/-- Table `alu` of R92. -/
def AluOp.ofIndex (i : Nat) : AluOp :=
  match i with
  | 0 => .add
  | 1 => .adc
  | 2 => .sub
  | 3 => .sbc
  | 4 => .and
  | 5 => .xor
  | 6 => .or
  | _ => .cp

/-- Table `rot` of R92. -/
def RotOp.ofIndex (i : Nat) : RotOp :=
  match i with
  | 0 => .rlc
  | 1 => .rrc
  | 2 => .rl
  | 3 => .rr
  | 4 => .sla
  | 5 => .sra
  | 6 => .swap
  | _ => .srl

/-- The indirect forms of R95, z = 2, by field p. -/
def Ind.ofIndex (i : Nat) : Ind :=
  match i with
  | 0 => .bc
  | 1 => .de
  | 2 => .hlInc
  | _ => .hlDec

/-! ### The rows by family: which constructor is which entry of the tables of R95 to R99 -/

/-- `LD r[y],r[z]`, with `HALT` in the place of `LD (HL),(HL)` (R96). -/
def Instr.ld8 (x : R8) (r : R8) : Instr :=
  match x, r with
  | .b, .b => .ldBB
  | .b, .c => .ldBC
  | .b, .d => .ldBD
  | .b, .e => .ldBE
  | .b, .h => .ldBH
  | .b, .l => .ldBL
  | .b, .atHl => .ldBAtHl
  | .b, .a => .ldBA
  | .c, .b => .ldCB
  | .c, .c => .ldCC
  | .c, .d => .ldCD
  | .c, .e => .ldCE
  | .c, .h => .ldCH
  | .c, .l => .ldCL
  | .c, .atHl => .ldCAtHl
  | .c, .a => .ldCA
  | .d, .b => .ldDB
  | .d, .c => .ldDC
  | .d, .d => .ldDD
  | .d, .e => .ldDE
  | .d, .h => .ldDH
  | .d, .l => .ldDL
  | .d, .atHl => .ldDAtHl
  | .d, .a => .ldDA
  | .e, .b => .ldEB
  | .e, .c => .ldEC
  | .e, .d => .ldED
  | .e, .e => .ldEE
  | .e, .h => .ldEH
  | .e, .l => .ldEL
  | .e, .atHl => .ldEAtHl
  | .e, .a => .ldEA
  | .h, .b => .ldHB
  | .h, .c => .ldHC
  | .h, .d => .ldHD
  | .h, .e => .ldHE
  | .h, .h => .ldHH
  | .h, .l => .ldHL
  | .h, .atHl => .ldHAtHl
  | .h, .a => .ldHA
  | .l, .b => .ldLB
  | .l, .c => .ldLC
  | .l, .d => .ldLD
  | .l, .e => .ldLE
  | .l, .h => .ldLH
  | .l, .l => .ldLL
  | .l, .atHl => .ldLAtHl
  | .l, .a => .ldLA
  | .atHl, .b => .ldAtHlB
  | .atHl, .c => .ldAtHlC
  | .atHl, .d => .ldAtHlD
  | .atHl, .e => .ldAtHlE
  | .atHl, .h => .ldAtHlH
  | .atHl, .l => .ldAtHlL
  | .atHl, .atHl => .halt
  | .atHl, .a => .ldAtHlA
  | .a, .b => .ldAB
  | .a, .c => .ldAC
  | .a, .d => .ldAD
  | .a, .e => .ldAE
  | .a, .h => .ldAH
  | .a, .l => .ldAL
  | .a, .atHl => .ldAAtHl
  | .a, .a => .ldAA

/-- `alu[y] r[z]` (R97). -/
def Instr.alu8 (x : AluOp) (r : R8) : Instr :=
  match x, r with
  | .add, .b => .addAB
  | .add, .c => .addAC
  | .add, .d => .addAD
  | .add, .e => .addAE
  | .add, .h => .addAH
  | .add, .l => .addAL
  | .add, .atHl => .addAAtHl
  | .add, .a => .addAA
  | .adc, .b => .adcAB
  | .adc, .c => .adcAC
  | .adc, .d => .adcAD
  | .adc, .e => .adcAE
  | .adc, .h => .adcAH
  | .adc, .l => .adcAL
  | .adc, .atHl => .adcAAtHl
  | .adc, .a => .adcAA
  | .sub, .b => .subB
  | .sub, .c => .subC
  | .sub, .d => .subD
  | .sub, .e => .subE
  | .sub, .h => .subH
  | .sub, .l => .subL
  | .sub, .atHl => .subAtHl
  | .sub, .a => .subA
  | .sbc, .b => .sbcAB
  | .sbc, .c => .sbcAC
  | .sbc, .d => .sbcAD
  | .sbc, .e => .sbcAE
  | .sbc, .h => .sbcAH
  | .sbc, .l => .sbcAL
  | .sbc, .atHl => .sbcAAtHl
  | .sbc, .a => .sbcAA
  | .and, .b => .andB
  | .and, .c => .andC
  | .and, .d => .andD
  | .and, .e => .andE
  | .and, .h => .andH
  | .and, .l => .andL
  | .and, .atHl => .andAtHl
  | .and, .a => .andA
  | .xor, .b => .xorB
  | .xor, .c => .xorC
  | .xor, .d => .xorD
  | .xor, .e => .xorE
  | .xor, .h => .xorH
  | .xor, .l => .xorL
  | .xor, .atHl => .xorAtHl
  | .xor, .a => .xorA
  | .or, .b => .orB
  | .or, .c => .orC
  | .or, .d => .orD
  | .or, .e => .orE
  | .or, .h => .orH
  | .or, .l => .orL
  | .or, .atHl => .orAtHl
  | .or, .a => .orA
  | .cp, .b => .cpB
  | .cp, .c => .cpC
  | .cp, .d => .cpD
  | .cp, .e => .cpE
  | .cp, .h => .cpH
  | .cp, .l => .cpL
  | .cp, .atHl => .cpAtHl
  | .cp, .a => .cpA

/-- `alu[y] d8` (R98, z = 6). -/
def Instr.alu8Imm (r : AluOp) (v : Byte) : Instr :=
  match r with
  | .add => .addAD8 v
  | .adc => .adcAD8 v
  | .sub => .subD8 v
  | .sbc => .sbcAD8 v
  | .and => .andD8 v
  | .xor => .xorD8 v
  | .or => .orD8 v
  | .cp => .cpD8 v

/-- `LD r[y],d8` (R95, z = 6). -/
def Instr.ld8Imm (r : R8) (v : Byte) : Instr :=
  match r with
  | .b => .ldBD8 v
  | .c => .ldCD8 v
  | .d => .ldDD8 v
  | .e => .ldED8 v
  | .h => .ldHD8 v
  | .l => .ldLD8 v
  | .atHl => .ldAtHlD8 v
  | .a => .ldAD8 v

/-- `INC r[y]` (R95, z = 4). -/
def Instr.inc8 (r : R8) : Instr :=
  match r with
  | .b => .incB
  | .c => .incC
  | .d => .incD
  | .e => .incE
  | .h => .incH
  | .l => .incL
  | .atHl => .incAtHl
  | .a => .incA

/-- `DEC r[y]` (R95, z = 5). -/
def Instr.dec8 (r : R8) : Instr :=
  match r with
  | .b => .decB
  | .c => .decC
  | .d => .decD
  | .e => .decE
  | .h => .decH
  | .l => .decL
  | .atHl => .decAtHl
  | .a => .decA

/-- `LD rp[p],d16` (R95, z = 1). -/
def Instr.ld16Imm (r : Rp) (v : Word) : Instr :=
  match r with
  | .bc => .ldBcD16 v
  | .de => .ldDeD16 v
  | .hl => .ldHlD16 v
  | .sp => .ldSpD16 v

/-- `ADD HL,rp[p]` (R95, z = 1). -/
def Instr.addHl (r : Rp) : Instr :=
  match r with
  | .bc => .addHlBc
  | .de => .addHlDe
  | .hl => .addHlHl
  | .sp => .addHlSp

/-- `INC rp[p]` (R95, z = 3). -/
def Instr.inc16 (r : Rp) : Instr :=
  match r with
  | .bc => .incBc
  | .de => .incDe
  | .hl => .incHl
  | .sp => .incSp

/-- `DEC rp[p]` (R95, z = 3). -/
def Instr.dec16 (r : Rp) : Instr :=
  match r with
  | .bc => .decBc
  | .de => .decDe
  | .hl => .decHl
  | .sp => .decSp

/-- `LD (BC),A` and the three beside it (R95, z = 2, q = 0). -/
def Instr.storeInd (r : Ind) : Instr :=
  match r with
  | .bc => .ldAtBcA
  | .de => .ldAtDeA
  | .hlInc => .ldAtHlIncA
  | .hlDec => .ldAtHlDecA

/-- `LD A,(BC)` and the three beside it (R95, z = 2, q = 1). -/
def Instr.loadInd (r : Ind) : Instr :=
  match r with
  | .bc => .ldAAtBc
  | .de => .ldAAtDe
  | .hlInc => .ldAAtHlInc
  | .hlDec => .ldAAtHlDec

/-- `PUSH rp2[p]` (R98, z = 5). -/
def Instr.push (r : Rp2) : Instr :=
  match r with
  | .bc => .pushBc
  | .de => .pushDe
  | .hl => .pushHl
  | .af => .pushAf

/-- `POP rp2[p]` (R98, z = 1). -/
def Instr.pop (r : Rp2) : Instr :=
  match r with
  | .bc => .popBc
  | .de => .popDe
  | .hl => .popHl
  | .af => .popAf

/-- `JR cc[y-4],e8` (R95, z = 0). -/
def Instr.jrCc (r : Cond) (e : Byte) : Instr :=
  match r with
  | .nz => .jrNzE8 e
  | .z => .jrZE8 e
  | .nc => .jrNcE8 e
  | .c => .jrCE8 e

/-- `JP cc[y],a16` (R98, z = 2). -/
def Instr.jpCc (r : Cond) (a : Word) : Instr :=
  match r with
  | .nz => .jpNzA16 a
  | .z => .jpZA16 a
  | .nc => .jpNcA16 a
  | .c => .jpCA16 a

/-- `CALL cc[y],a16` (R98, z = 4). -/
def Instr.callCc (r : Cond) (a : Word) : Instr :=
  match r with
  | .nz => .callNzA16 a
  | .z => .callZA16 a
  | .nc => .callNcA16 a
  | .c => .callCA16 a

/-- `RET cc[y]` (R98, z = 0). -/
def Instr.retCc (r : Cond) : Instr :=
  match r with
  | .nz => .retNz
  | .z => .retZ
  | .nc => .retNc
  | .c => .retC

/-- `rot[y] r[z]` (R99, x = 0). -/
def Instr.rot (x : RotOp) (r : R8) : Instr :=
  match x, r with
  | .rlc, .b => .rlcB
  | .rlc, .c => .rlcC
  | .rlc, .d => .rlcD
  | .rlc, .e => .rlcE
  | .rlc, .h => .rlcH
  | .rlc, .l => .rlcL
  | .rlc, .atHl => .rlcAtHl
  | .rlc, .a => .rlcA
  | .rrc, .b => .rrcB
  | .rrc, .c => .rrcC
  | .rrc, .d => .rrcD
  | .rrc, .e => .rrcE
  | .rrc, .h => .rrcH
  | .rrc, .l => .rrcL
  | .rrc, .atHl => .rrcAtHl
  | .rrc, .a => .rrcA
  | .rl, .b => .rlB
  | .rl, .c => .rlC
  | .rl, .d => .rlD
  | .rl, .e => .rlE
  | .rl, .h => .rlH
  | .rl, .l => .rlL
  | .rl, .atHl => .rlAtHl
  | .rl, .a => .rlA
  | .rr, .b => .rrB
  | .rr, .c => .rrC
  | .rr, .d => .rrD
  | .rr, .e => .rrE
  | .rr, .h => .rrH
  | .rr, .l => .rrL
  | .rr, .atHl => .rrAtHl
  | .rr, .a => .rrA
  | .sla, .b => .slaB
  | .sla, .c => .slaC
  | .sla, .d => .slaD
  | .sla, .e => .slaE
  | .sla, .h => .slaH
  | .sla, .l => .slaL
  | .sla, .atHl => .slaAtHl
  | .sla, .a => .slaA
  | .sra, .b => .sraB
  | .sra, .c => .sraC
  | .sra, .d => .sraD
  | .sra, .e => .sraE
  | .sra, .h => .sraH
  | .sra, .l => .sraL
  | .sra, .atHl => .sraAtHl
  | .sra, .a => .sraA
  | .swap, .b => .swapB
  | .swap, .c => .swapC
  | .swap, .d => .swapD
  | .swap, .e => .swapE
  | .swap, .h => .swapH
  | .swap, .l => .swapL
  | .swap, .atHl => .swapAtHl
  | .swap, .a => .swapA
  | .srl, .b => .srlB
  | .srl, .c => .srlC
  | .srl, .d => .srlD
  | .srl, .e => .srlE
  | .srl, .h => .srlH
  | .srl, .l => .srlL
  | .srl, .atHl => .srlAtHl
  | .srl, .a => .srlA

/-- `BIT 0,r[z]` (R99). -/
def Instr.bit0 (r : R8) : Instr :=
  match r with
  | .b => .bit0B
  | .c => .bit0C
  | .d => .bit0D
  | .e => .bit0E
  | .h => .bit0H
  | .l => .bit0L
  | .atHl => .bit0AtHl
  | .a => .bit0A

/-- `BIT 1,r[z]` (R99). -/
def Instr.bit1 (r : R8) : Instr :=
  match r with
  | .b => .bit1B
  | .c => .bit1C
  | .d => .bit1D
  | .e => .bit1E
  | .h => .bit1H
  | .l => .bit1L
  | .atHl => .bit1AtHl
  | .a => .bit1A

/-- `BIT 2,r[z]` (R99). -/
def Instr.bit2 (r : R8) : Instr :=
  match r with
  | .b => .bit2B
  | .c => .bit2C
  | .d => .bit2D
  | .e => .bit2E
  | .h => .bit2H
  | .l => .bit2L
  | .atHl => .bit2AtHl
  | .a => .bit2A

/-- `BIT 3,r[z]` (R99). -/
def Instr.bit3 (r : R8) : Instr :=
  match r with
  | .b => .bit3B
  | .c => .bit3C
  | .d => .bit3D
  | .e => .bit3E
  | .h => .bit3H
  | .l => .bit3L
  | .atHl => .bit3AtHl
  | .a => .bit3A

/-- `BIT 4,r[z]` (R99). -/
def Instr.bit4 (r : R8) : Instr :=
  match r with
  | .b => .bit4B
  | .c => .bit4C
  | .d => .bit4D
  | .e => .bit4E
  | .h => .bit4H
  | .l => .bit4L
  | .atHl => .bit4AtHl
  | .a => .bit4A

/-- `BIT 5,r[z]` (R99). -/
def Instr.bit5 (r : R8) : Instr :=
  match r with
  | .b => .bit5B
  | .c => .bit5C
  | .d => .bit5D
  | .e => .bit5E
  | .h => .bit5H
  | .l => .bit5L
  | .atHl => .bit5AtHl
  | .a => .bit5A

/-- `BIT 6,r[z]` (R99). -/
def Instr.bit6 (r : R8) : Instr :=
  match r with
  | .b => .bit6B
  | .c => .bit6C
  | .d => .bit6D
  | .e => .bit6E
  | .h => .bit6H
  | .l => .bit6L
  | .atHl => .bit6AtHl
  | .a => .bit6A

/-- `BIT 7,r[z]` (R99). -/
def Instr.bit7 (r : R8) : Instr :=
  match r with
  | .b => .bit7B
  | .c => .bit7C
  | .d => .bit7D
  | .e => .bit7E
  | .h => .bit7H
  | .l => .bit7L
  | .atHl => .bit7AtHl
  | .a => .bit7A

/-- `BIT y,r[z]` (R99); `y` is a field of three bits, 0 to 7. -/
def Instr.bit (y : Nat) (r : R8) : Instr :=
  match y with
  | 0 => .bit0 r
  | 1 => .bit1 r
  | 2 => .bit2 r
  | 3 => .bit3 r
  | 4 => .bit4 r
  | 5 => .bit5 r
  | 6 => .bit6 r
  | _ => .bit7 r

/-- `RES 0,r[z]` (R99). -/
def Instr.res0 (r : R8) : Instr :=
  match r with
  | .b => .res0B
  | .c => .res0C
  | .d => .res0D
  | .e => .res0E
  | .h => .res0H
  | .l => .res0L
  | .atHl => .res0AtHl
  | .a => .res0A

/-- `RES 1,r[z]` (R99). -/
def Instr.res1 (r : R8) : Instr :=
  match r with
  | .b => .res1B
  | .c => .res1C
  | .d => .res1D
  | .e => .res1E
  | .h => .res1H
  | .l => .res1L
  | .atHl => .res1AtHl
  | .a => .res1A

/-- `RES 2,r[z]` (R99). -/
def Instr.res2 (r : R8) : Instr :=
  match r with
  | .b => .res2B
  | .c => .res2C
  | .d => .res2D
  | .e => .res2E
  | .h => .res2H
  | .l => .res2L
  | .atHl => .res2AtHl
  | .a => .res2A

/-- `RES 3,r[z]` (R99). -/
def Instr.res3 (r : R8) : Instr :=
  match r with
  | .b => .res3B
  | .c => .res3C
  | .d => .res3D
  | .e => .res3E
  | .h => .res3H
  | .l => .res3L
  | .atHl => .res3AtHl
  | .a => .res3A

/-- `RES 4,r[z]` (R99). -/
def Instr.res4 (r : R8) : Instr :=
  match r with
  | .b => .res4B
  | .c => .res4C
  | .d => .res4D
  | .e => .res4E
  | .h => .res4H
  | .l => .res4L
  | .atHl => .res4AtHl
  | .a => .res4A

/-- `RES 5,r[z]` (R99). -/
def Instr.res5 (r : R8) : Instr :=
  match r with
  | .b => .res5B
  | .c => .res5C
  | .d => .res5D
  | .e => .res5E
  | .h => .res5H
  | .l => .res5L
  | .atHl => .res5AtHl
  | .a => .res5A

/-- `RES 6,r[z]` (R99). -/
def Instr.res6 (r : R8) : Instr :=
  match r with
  | .b => .res6B
  | .c => .res6C
  | .d => .res6D
  | .e => .res6E
  | .h => .res6H
  | .l => .res6L
  | .atHl => .res6AtHl
  | .a => .res6A

/-- `RES 7,r[z]` (R99). -/
def Instr.res7 (r : R8) : Instr :=
  match r with
  | .b => .res7B
  | .c => .res7C
  | .d => .res7D
  | .e => .res7E
  | .h => .res7H
  | .l => .res7L
  | .atHl => .res7AtHl
  | .a => .res7A

/-- `RES y,r[z]` (R99); `y` is a field of three bits, 0 to 7. -/
def Instr.res (y : Nat) (r : R8) : Instr :=
  match y with
  | 0 => .res0 r
  | 1 => .res1 r
  | 2 => .res2 r
  | 3 => .res3 r
  | 4 => .res4 r
  | 5 => .res5 r
  | 6 => .res6 r
  | _ => .res7 r

/-- `SET 0,r[z]` (R99). -/
def Instr.set0 (r : R8) : Instr :=
  match r with
  | .b => .set0B
  | .c => .set0C
  | .d => .set0D
  | .e => .set0E
  | .h => .set0H
  | .l => .set0L
  | .atHl => .set0AtHl
  | .a => .set0A

/-- `SET 1,r[z]` (R99). -/
def Instr.set1 (r : R8) : Instr :=
  match r with
  | .b => .set1B
  | .c => .set1C
  | .d => .set1D
  | .e => .set1E
  | .h => .set1H
  | .l => .set1L
  | .atHl => .set1AtHl
  | .a => .set1A

/-- `SET 2,r[z]` (R99). -/
def Instr.set2 (r : R8) : Instr :=
  match r with
  | .b => .set2B
  | .c => .set2C
  | .d => .set2D
  | .e => .set2E
  | .h => .set2H
  | .l => .set2L
  | .atHl => .set2AtHl
  | .a => .set2A

/-- `SET 3,r[z]` (R99). -/
def Instr.set3 (r : R8) : Instr :=
  match r with
  | .b => .set3B
  | .c => .set3C
  | .d => .set3D
  | .e => .set3E
  | .h => .set3H
  | .l => .set3L
  | .atHl => .set3AtHl
  | .a => .set3A

/-- `SET 4,r[z]` (R99). -/
def Instr.set4 (r : R8) : Instr :=
  match r with
  | .b => .set4B
  | .c => .set4C
  | .d => .set4D
  | .e => .set4E
  | .h => .set4H
  | .l => .set4L
  | .atHl => .set4AtHl
  | .a => .set4A

/-- `SET 5,r[z]` (R99). -/
def Instr.set5 (r : R8) : Instr :=
  match r with
  | .b => .set5B
  | .c => .set5C
  | .d => .set5D
  | .e => .set5E
  | .h => .set5H
  | .l => .set5L
  | .atHl => .set5AtHl
  | .a => .set5A

/-- `SET 6,r[z]` (R99). -/
def Instr.set6 (r : R8) : Instr :=
  match r with
  | .b => .set6B
  | .c => .set6C
  | .d => .set6D
  | .e => .set6E
  | .h => .set6H
  | .l => .set6L
  | .atHl => .set6AtHl
  | .a => .set6A

/-- `SET 7,r[z]` (R99). -/
def Instr.set7 (r : R8) : Instr :=
  match r with
  | .b => .set7B
  | .c => .set7C
  | .d => .set7D
  | .e => .set7E
  | .h => .set7H
  | .l => .set7L
  | .atHl => .set7AtHl
  | .a => .set7A

/-- `SET y,r[z]` (R99); `y` is a field of three bits, 0 to 7. -/
def Instr.set (y : Nat) (r : R8) : Instr :=
  match y with
  | 0 => .set0 r
  | 1 => .set1 r
  | 2 => .set2 r
  | 3 => .set3 r
  | 4 => .set4 r
  | 5 => .set5 r
  | 6 => .set6 r
  | _ => .set7 r

/-- `RST y*8` (R98, z = 7); `y` is a field of three bits, 0 to 7. -/
def Instr.rst (y : Nat) : Instr :=
  match y with
  | 0 => .rst00
  | 1 => .rst08
  | 2 => .rst10
  | 3 => .rst18
  | 4 => .rst20
  | 5 => .rst28
  | 6 => .rst30
  | _ => .rst38

/-! ### Lengths (R102) -/

/-- The opcodes of length 3 (R102). -/
def lengthThree : List Byte :=
  [0x01, 0x11, 0x21, 0x31, 0x08, 0xC2, 0xCA, 0xD2, 0xDA, 0xC3, 0xC4, 0xCC, 0xD4, 0xDC, 0xCD, 0xEA, 0xFA]

/-- The opcodes of length 2 (R102). -/
def lengthTwo : List Byte :=
  [0x06, 0x0E, 0x16, 0x1E, 0x26, 0x2E, 0x36, 0x3E, 0x10, 0x18, 0x20, 0x28, 0x30, 0x38] ++
    [0xC6, 0xCE, 0xD6, 0xDE, 0xE6, 0xEE, 0xF6, 0xFE, 0xE0, 0xF0, 0xE8, 0xF8, 0xCB]

/-- The length of an instruction, "a function of the first byte alone" (R90, R102). -/
def lengthOf (op : Byte) : Nat :=
  if op ∈ lengthThree then 3 else if op ∈ lengthTwo then 2 else 1

/-- How many immediate bytes (R94) follow the opcode: the rest of the length, but none for STOP, whose second byte "is
skipped, not read" (R90), and none for the prefix, whose second byte is an opcode (R93). -/
def operandCount (op : Byte) : Nat :=
  if op = 0x10#8 ∨ op = 0xCB#8 then 0 else lengthOf op - 1

/-! ### The two decoders (R106) -/

/-- Block 0 (R95). `v` is the byte after the opcode, `w` the word after it. -/
def decodeBlock0 (op v : Byte) (w : Word) : Instr :=
  match opZ op with
  | 0 =>
    match opY op with
    | 0 => .nop
    | 1 => .ldAtA16Sp w
    | 2 => .stop
    | 3 => .jrE8 v
    | y => Instr.jrCc (Cond.ofIndex (y - 4)) v
  | 1 => if opQ op = 0 then Instr.ld16Imm (Rp.ofIndex (opP op)) w else Instr.addHl (Rp.ofIndex (opP op))
  | 2 => if opQ op = 0 then Instr.storeInd (Ind.ofIndex (opP op)) else Instr.loadInd (Ind.ofIndex (opP op))
  | 3 => if opQ op = 0 then Instr.inc16 (Rp.ofIndex (opP op)) else Instr.dec16 (Rp.ofIndex (opP op))
  | 4 => Instr.inc8 (R8.ofIndex (opY op))
  | 5 => Instr.dec8 (R8.ofIndex (opY op))
  | 6 => Instr.ld8Imm (R8.ofIndex (opY op)) v
  | _ =>
    match opY op with
    | 0 => .rlca
    | 1 => .rrca
    | 2 => .rla
    | 3 => .rra
    | 4 => .daa
    | 5 => .cpl
    | 6 => .scf
    | _ => .ccf

/-- Block 3 (R98). `v` is the byte after the opcode, `w` the word after it. -/
def decodeBlock3 (op v : Byte) (w : Word) : Instr :=
  match opZ op with
  | 0 =>
    match opY op with
    | 4 => .ldhAtA8A v
    | 5 => .addSpE8 v
    | 6 => .ldhAAtA8 v
    | 7 => .ldHlSpE8 v
    | y => Instr.retCc (Cond.ofIndex y)
  | 1 =>
    if opQ op = 0 then Instr.pop (Rp2.ofIndex (opP op))
    else
      match opP op with
      | 0 => .ret
      | 1 => .reti
      | 2 => .jpHl
      | _ => .ldSpHl
  | 2 =>
    match opY op with
    | 4 => .ldAtCA
    | 5 => .ldAtA16A w
    | 6 => .ldAAtC
    | 7 => .ldAAtA16 w
    | y => Instr.jpCc (Cond.ofIndex y) w
  | 3 =>
    match opY op with
    | 0 => .jpA16 w
    | 1 => .prefixCb
    | 6 => .di
    | 7 => .ei
    | _ => .illegal op
  | 4 =>
    match opY op with
    | 0 => Instr.callCc .nz w
    | 1 => Instr.callCc .z w
    | 2 => Instr.callCc .nc w
    | 3 => Instr.callCc .c w
    | _ => .illegal op
  | 5 =>
    if opQ op = 0 then Instr.push (Rp2.ofIndex (opP op))
    else
      match opP op with
      | 0 => .callA16 w
      | _ => .illegal op
  | 6 => Instr.alu8Imm (AluOp.ofIndex (opY op)) v
  | _ => Instr.rst (opY op)

/-- `decode_unprefixed(opcode)` (R106), with the immediates of the row: `b1` is the byte after the opcode and `b2` the
one after it; a word immediate is `{b2, b1}` (R94). -/
def decodeUnprefixed (op b1 b2 : Byte) : Instr :=
  match opX op with
  | 0 => decodeBlock0 op b1 (Machine.pair b2 b1)
  | 1 => Instr.ld8 (R8.ofIndex (opY op)) (R8.ofIndex (opZ op))
  | 2 => Instr.alu8 (AluOp.ofIndex (opY op)) (R8.ofIndex (opZ op))
  | _ => decodeBlock3 op b1 (Machine.pair b2 b1)

/-- `decode_prefixed(opcode)` (R99, R106): "All 256 values of `op2` are defined". -/
def decodePrefixed (op2 : Byte) : Instr :=
  match opX op2 with
  | 0 => Instr.rot (RotOp.ofIndex (opY op2)) (R8.ofIndex (opZ op2))
  | 1 => Instr.bit (opY op2) (R8.ofIndex (opZ op2))
  | 2 => Instr.res (opY op2) (R8.ofIndex (opZ op2))
  | _ => Instr.set (opY op2) (R8.ofIndex (opZ op2))

/-- Decoding a list of bytes, the first at the lowest address. "the longer match decides" (R108): 0xCB with a byte after it
is a CB-prefixed row, 0xCB alone the row PREFIX CB. What it rejects, it rejects by name: no opcode, or an immediate
that is not there. Every complete encoding decodes ("decoding itself never fails", R106). -/
def decode : List Byte → Except DecodeError Instr
  | [] => .error .noOpcode
  | op :: rest =>
    if op = 0xCB#8 then
      match rest with
      | [] => .ok .prefixCb
      | op2 :: _ => .ok (decodePrefixed op2)
    else
      match operandCount op, rest with
      | 0, _ => .ok (decodeUnprefixed op 0 0)
      | 1, b1 :: _ => .ok (decodeUnprefixed op b1 0)
      | 2, b1 :: b2 :: _ => .ok (decodeUnprefixed op b1 b2)
      | _, _ => .error .missingImmediate

/-! ### The opcode table's words (log 9) -/

/-- The three bytes that a word of spec/opcode_table.json stands for, in fetch order. The table writes the two opcode bytes
of a CB-prefixed row as one number with 0xCB in bits 15..8 (R108); every other row counts its bits from the first byte
on. DEDUCED, log 9. -/
def tableBytes (nbits w : Nat) : Byte × Byte × Byte :=
  if nbits = 16 ∧ w / 256 % 256 = 0xCB then (0xCB#8, BitVec.ofNat 8 w, 0#8)
  else (BitVec.ofNat 8 w, BitVec.ofNat 8 (w / 256), BitVec.ofNat 8 (w / 65536))

/-- The instruction the decoder reads from a word of the table. A row of 8 bits is one of the unprefixed table
(`decode_unprefixed`, R106); a wider one is decoded as its bytes. -/
def decodeTableWord (nbits w : Nat) : Option Instr :=
  match tableBytes nbits w with
  | (b0, b1, b2) =>
    if nbits < 8 then none
    else if nbits < 16 then some (decodeUnprefixed b0 b1 b2)
    else (decode [b0, b1, b2]).toOption

/-! ### The encoder -/

/-- The bytes of an instruction in fetch order: the `match` column of spec/opcode_table.json, then the immediate, low
byte first (R90, R94). STOP is written with the second byte 0x00 that assemblers emit (R242; log 10). -/
def encode (i : Instr) : List Byte :=
  match i with
  | .nop => [0x00#8]
  | .ldBcD16 v => [0x01#8, Machine.loByte v, Machine.hiByte v]
  | .ldAtBcA => [0x02#8]
  | .incBc => [0x03#8]
  | .incB => [0x04#8]
  | .decB => [0x05#8]
  | .ldBD8 v => [0x06#8, v]
  | .rlca => [0x07#8]
  | .ldAtA16Sp a => [0x08#8, Machine.loByte a, Machine.hiByte a]
  | .addHlBc => [0x09#8]
  | .ldAAtBc => [0x0A#8]
  | .decBc => [0x0B#8]
  | .incC => [0x0C#8]
  | .decC => [0x0D#8]
  | .ldCD8 v => [0x0E#8, v]
  | .rrca => [0x0F#8]
  | .stop => [0x10#8, 0x00#8]
  | .ldDeD16 v => [0x11#8, Machine.loByte v, Machine.hiByte v]
  | .ldAtDeA => [0x12#8]
  | .incDe => [0x13#8]
  | .incD => [0x14#8]
  | .decD => [0x15#8]
  | .ldDD8 v => [0x16#8, v]
  | .rla => [0x17#8]
  | .jrE8 e => [0x18#8, e]
  | .addHlDe => [0x19#8]
  | .ldAAtDe => [0x1A#8]
  | .decDe => [0x1B#8]
  | .incE => [0x1C#8]
  | .decE => [0x1D#8]
  | .ldED8 v => [0x1E#8, v]
  | .rra => [0x1F#8]
  | .jrNzE8 e => [0x20#8, e]
  | .ldHlD16 v => [0x21#8, Machine.loByte v, Machine.hiByte v]
  | .ldAtHlIncA => [0x22#8]
  | .incHl => [0x23#8]
  | .incH => [0x24#8]
  | .decH => [0x25#8]
  | .ldHD8 v => [0x26#8, v]
  | .daa => [0x27#8]
  | .jrZE8 e => [0x28#8, e]
  | .addHlHl => [0x29#8]
  | .ldAAtHlInc => [0x2A#8]
  | .decHl => [0x2B#8]
  | .incL => [0x2C#8]
  | .decL => [0x2D#8]
  | .ldLD8 v => [0x2E#8, v]
  | .cpl => [0x2F#8]
  | .jrNcE8 e => [0x30#8, e]
  | .ldSpD16 v => [0x31#8, Machine.loByte v, Machine.hiByte v]
  | .ldAtHlDecA => [0x32#8]
  | .incSp => [0x33#8]
  | .incAtHl => [0x34#8]
  | .decAtHl => [0x35#8]
  | .ldAtHlD8 v => [0x36#8, v]
  | .scf => [0x37#8]
  | .jrCE8 e => [0x38#8, e]
  | .addHlSp => [0x39#8]
  | .ldAAtHlDec => [0x3A#8]
  | .decSp => [0x3B#8]
  | .incA => [0x3C#8]
  | .decA => [0x3D#8]
  | .ldAD8 v => [0x3E#8, v]
  | .ccf => [0x3F#8]
  | .ldBB => [0x40#8]
  | .ldBC => [0x41#8]
  | .ldBD => [0x42#8]
  | .ldBE => [0x43#8]
  | .ldBH => [0x44#8]
  | .ldBL => [0x45#8]
  | .ldBAtHl => [0x46#8]
  | .ldBA => [0x47#8]
  | .ldCB => [0x48#8]
  | .ldCC => [0x49#8]
  | .ldCD => [0x4A#8]
  | .ldCE => [0x4B#8]
  | .ldCH => [0x4C#8]
  | .ldCL => [0x4D#8]
  | .ldCAtHl => [0x4E#8]
  | .ldCA => [0x4F#8]
  | .ldDB => [0x50#8]
  | .ldDC => [0x51#8]
  | .ldDD => [0x52#8]
  | .ldDE => [0x53#8]
  | .ldDH => [0x54#8]
  | .ldDL => [0x55#8]
  | .ldDAtHl => [0x56#8]
  | .ldDA => [0x57#8]
  | .ldEB => [0x58#8]
  | .ldEC => [0x59#8]
  | .ldED => [0x5A#8]
  | .ldEE => [0x5B#8]
  | .ldEH => [0x5C#8]
  | .ldEL => [0x5D#8]
  | .ldEAtHl => [0x5E#8]
  | .ldEA => [0x5F#8]
  | .ldHB => [0x60#8]
  | .ldHC => [0x61#8]
  | .ldHD => [0x62#8]
  | .ldHE => [0x63#8]
  | .ldHH => [0x64#8]
  | .ldHL => [0x65#8]
  | .ldHAtHl => [0x66#8]
  | .ldHA => [0x67#8]
  | .ldLB => [0x68#8]
  | .ldLC => [0x69#8]
  | .ldLD => [0x6A#8]
  | .ldLE => [0x6B#8]
  | .ldLH => [0x6C#8]
  | .ldLL => [0x6D#8]
  | .ldLAtHl => [0x6E#8]
  | .ldLA => [0x6F#8]
  | .ldAtHlB => [0x70#8]
  | .ldAtHlC => [0x71#8]
  | .ldAtHlD => [0x72#8]
  | .ldAtHlE => [0x73#8]
  | .ldAtHlH => [0x74#8]
  | .ldAtHlL => [0x75#8]
  | .halt => [0x76#8]
  | .ldAtHlA => [0x77#8]
  | .ldAB => [0x78#8]
  | .ldAC => [0x79#8]
  | .ldAD => [0x7A#8]
  | .ldAE => [0x7B#8]
  | .ldAH => [0x7C#8]
  | .ldAL => [0x7D#8]
  | .ldAAtHl => [0x7E#8]
  | .ldAA => [0x7F#8]
  | .addAB => [0x80#8]
  | .addAC => [0x81#8]
  | .addAD => [0x82#8]
  | .addAE => [0x83#8]
  | .addAH => [0x84#8]
  | .addAL => [0x85#8]
  | .addAAtHl => [0x86#8]
  | .addAA => [0x87#8]
  | .adcAB => [0x88#8]
  | .adcAC => [0x89#8]
  | .adcAD => [0x8A#8]
  | .adcAE => [0x8B#8]
  | .adcAH => [0x8C#8]
  | .adcAL => [0x8D#8]
  | .adcAAtHl => [0x8E#8]
  | .adcAA => [0x8F#8]
  | .subB => [0x90#8]
  | .subC => [0x91#8]
  | .subD => [0x92#8]
  | .subE => [0x93#8]
  | .subH => [0x94#8]
  | .subL => [0x95#8]
  | .subAtHl => [0x96#8]
  | .subA => [0x97#8]
  | .sbcAB => [0x98#8]
  | .sbcAC => [0x99#8]
  | .sbcAD => [0x9A#8]
  | .sbcAE => [0x9B#8]
  | .sbcAH => [0x9C#8]
  | .sbcAL => [0x9D#8]
  | .sbcAAtHl => [0x9E#8]
  | .sbcAA => [0x9F#8]
  | .andB => [0xA0#8]
  | .andC => [0xA1#8]
  | .andD => [0xA2#8]
  | .andE => [0xA3#8]
  | .andH => [0xA4#8]
  | .andL => [0xA5#8]
  | .andAtHl => [0xA6#8]
  | .andA => [0xA7#8]
  | .xorB => [0xA8#8]
  | .xorC => [0xA9#8]
  | .xorD => [0xAA#8]
  | .xorE => [0xAB#8]
  | .xorH => [0xAC#8]
  | .xorL => [0xAD#8]
  | .xorAtHl => [0xAE#8]
  | .xorA => [0xAF#8]
  | .orB => [0xB0#8]
  | .orC => [0xB1#8]
  | .orD => [0xB2#8]
  | .orE => [0xB3#8]
  | .orH => [0xB4#8]
  | .orL => [0xB5#8]
  | .orAtHl => [0xB6#8]
  | .orA => [0xB7#8]
  | .cpB => [0xB8#8]
  | .cpC => [0xB9#8]
  | .cpD => [0xBA#8]
  | .cpE => [0xBB#8]
  | .cpH => [0xBC#8]
  | .cpL => [0xBD#8]
  | .cpAtHl => [0xBE#8]
  | .cpA => [0xBF#8]
  | .retNz => [0xC0#8]
  | .popBc => [0xC1#8]
  | .jpNzA16 a => [0xC2#8, Machine.loByte a, Machine.hiByte a]
  | .jpA16 a => [0xC3#8, Machine.loByte a, Machine.hiByte a]
  | .callNzA16 a => [0xC4#8, Machine.loByte a, Machine.hiByte a]
  | .pushBc => [0xC5#8]
  | .addAD8 v => [0xC6#8, v]
  | .rst00 => [0xC7#8]
  | .retZ => [0xC8#8]
  | .ret => [0xC9#8]
  | .jpZA16 a => [0xCA#8, Machine.loByte a, Machine.hiByte a]
  | .prefixCb => [0xCB#8]
  | .callZA16 a => [0xCC#8, Machine.loByte a, Machine.hiByte a]
  | .callA16 a => [0xCD#8, Machine.loByte a, Machine.hiByte a]
  | .adcAD8 v => [0xCE#8, v]
  | .rst08 => [0xCF#8]
  | .retNc => [0xD0#8]
  | .popDe => [0xD1#8]
  | .jpNcA16 a => [0xD2#8, Machine.loByte a, Machine.hiByte a]
  | .illegal op => [op]
  | .callNcA16 a => [0xD4#8, Machine.loByte a, Machine.hiByte a]
  | .pushDe => [0xD5#8]
  | .subD8 v => [0xD6#8, v]
  | .rst10 => [0xD7#8]
  | .retC => [0xD8#8]
  | .reti => [0xD9#8]
  | .jpCA16 a => [0xDA#8, Machine.loByte a, Machine.hiByte a]
  | .callCA16 a => [0xDC#8, Machine.loByte a, Machine.hiByte a]
  | .sbcAD8 v => [0xDE#8, v]
  | .rst18 => [0xDF#8]
  | .ldhAtA8A a => [0xE0#8, a]
  | .popHl => [0xE1#8]
  | .ldAtCA => [0xE2#8]
  | .pushHl => [0xE5#8]
  | .andD8 v => [0xE6#8, v]
  | .rst20 => [0xE7#8]
  | .addSpE8 e => [0xE8#8, e]
  | .jpHl => [0xE9#8]
  | .ldAtA16A a => [0xEA#8, Machine.loByte a, Machine.hiByte a]
  | .xorD8 v => [0xEE#8, v]
  | .rst28 => [0xEF#8]
  | .ldhAAtA8 a => [0xF0#8, a]
  | .popAf => [0xF1#8]
  | .ldAAtC => [0xF2#8]
  | .di => [0xF3#8]
  | .pushAf => [0xF5#8]
  | .orD8 v => [0xF6#8, v]
  | .rst30 => [0xF7#8]
  | .ldHlSpE8 e => [0xF8#8, e]
  | .ldSpHl => [0xF9#8]
  | .ldAAtA16 a => [0xFA#8, Machine.loByte a, Machine.hiByte a]
  | .ei => [0xFB#8]
  | .cpD8 v => [0xFE#8, v]
  | .rst38 => [0xFF#8]
  | .rlcB => [0xCB#8, 0x00#8]
  | .rlcC => [0xCB#8, 0x01#8]
  | .rlcD => [0xCB#8, 0x02#8]
  | .rlcE => [0xCB#8, 0x03#8]
  | .rlcH => [0xCB#8, 0x04#8]
  | .rlcL => [0xCB#8, 0x05#8]
  | .rlcAtHl => [0xCB#8, 0x06#8]
  | .rlcA => [0xCB#8, 0x07#8]
  | .rrcB => [0xCB#8, 0x08#8]
  | .rrcC => [0xCB#8, 0x09#8]
  | .rrcD => [0xCB#8, 0x0A#8]
  | .rrcE => [0xCB#8, 0x0B#8]
  | .rrcH => [0xCB#8, 0x0C#8]
  | .rrcL => [0xCB#8, 0x0D#8]
  | .rrcAtHl => [0xCB#8, 0x0E#8]
  | .rrcA => [0xCB#8, 0x0F#8]
  | .rlB => [0xCB#8, 0x10#8]
  | .rlC => [0xCB#8, 0x11#8]
  | .rlD => [0xCB#8, 0x12#8]
  | .rlE => [0xCB#8, 0x13#8]
  | .rlH => [0xCB#8, 0x14#8]
  | .rlL => [0xCB#8, 0x15#8]
  | .rlAtHl => [0xCB#8, 0x16#8]
  | .rlA => [0xCB#8, 0x17#8]
  | .rrB => [0xCB#8, 0x18#8]
  | .rrC => [0xCB#8, 0x19#8]
  | .rrD => [0xCB#8, 0x1A#8]
  | .rrE => [0xCB#8, 0x1B#8]
  | .rrH => [0xCB#8, 0x1C#8]
  | .rrL => [0xCB#8, 0x1D#8]
  | .rrAtHl => [0xCB#8, 0x1E#8]
  | .rrA => [0xCB#8, 0x1F#8]
  | .slaB => [0xCB#8, 0x20#8]
  | .slaC => [0xCB#8, 0x21#8]
  | .slaD => [0xCB#8, 0x22#8]
  | .slaE => [0xCB#8, 0x23#8]
  | .slaH => [0xCB#8, 0x24#8]
  | .slaL => [0xCB#8, 0x25#8]
  | .slaAtHl => [0xCB#8, 0x26#8]
  | .slaA => [0xCB#8, 0x27#8]
  | .sraB => [0xCB#8, 0x28#8]
  | .sraC => [0xCB#8, 0x29#8]
  | .sraD => [0xCB#8, 0x2A#8]
  | .sraE => [0xCB#8, 0x2B#8]
  | .sraH => [0xCB#8, 0x2C#8]
  | .sraL => [0xCB#8, 0x2D#8]
  | .sraAtHl => [0xCB#8, 0x2E#8]
  | .sraA => [0xCB#8, 0x2F#8]
  | .swapB => [0xCB#8, 0x30#8]
  | .swapC => [0xCB#8, 0x31#8]
  | .swapD => [0xCB#8, 0x32#8]
  | .swapE => [0xCB#8, 0x33#8]
  | .swapH => [0xCB#8, 0x34#8]
  | .swapL => [0xCB#8, 0x35#8]
  | .swapAtHl => [0xCB#8, 0x36#8]
  | .swapA => [0xCB#8, 0x37#8]
  | .srlB => [0xCB#8, 0x38#8]
  | .srlC => [0xCB#8, 0x39#8]
  | .srlD => [0xCB#8, 0x3A#8]
  | .srlE => [0xCB#8, 0x3B#8]
  | .srlH => [0xCB#8, 0x3C#8]
  | .srlL => [0xCB#8, 0x3D#8]
  | .srlAtHl => [0xCB#8, 0x3E#8]
  | .srlA => [0xCB#8, 0x3F#8]
  | .bit0B => [0xCB#8, 0x40#8]
  | .bit0C => [0xCB#8, 0x41#8]
  | .bit0D => [0xCB#8, 0x42#8]
  | .bit0E => [0xCB#8, 0x43#8]
  | .bit0H => [0xCB#8, 0x44#8]
  | .bit0L => [0xCB#8, 0x45#8]
  | .bit0AtHl => [0xCB#8, 0x46#8]
  | .bit0A => [0xCB#8, 0x47#8]
  | .bit1B => [0xCB#8, 0x48#8]
  | .bit1C => [0xCB#8, 0x49#8]
  | .bit1D => [0xCB#8, 0x4A#8]
  | .bit1E => [0xCB#8, 0x4B#8]
  | .bit1H => [0xCB#8, 0x4C#8]
  | .bit1L => [0xCB#8, 0x4D#8]
  | .bit1AtHl => [0xCB#8, 0x4E#8]
  | .bit1A => [0xCB#8, 0x4F#8]
  | .bit2B => [0xCB#8, 0x50#8]
  | .bit2C => [0xCB#8, 0x51#8]
  | .bit2D => [0xCB#8, 0x52#8]
  | .bit2E => [0xCB#8, 0x53#8]
  | .bit2H => [0xCB#8, 0x54#8]
  | .bit2L => [0xCB#8, 0x55#8]
  | .bit2AtHl => [0xCB#8, 0x56#8]
  | .bit2A => [0xCB#8, 0x57#8]
  | .bit3B => [0xCB#8, 0x58#8]
  | .bit3C => [0xCB#8, 0x59#8]
  | .bit3D => [0xCB#8, 0x5A#8]
  | .bit3E => [0xCB#8, 0x5B#8]
  | .bit3H => [0xCB#8, 0x5C#8]
  | .bit3L => [0xCB#8, 0x5D#8]
  | .bit3AtHl => [0xCB#8, 0x5E#8]
  | .bit3A => [0xCB#8, 0x5F#8]
  | .bit4B => [0xCB#8, 0x60#8]
  | .bit4C => [0xCB#8, 0x61#8]
  | .bit4D => [0xCB#8, 0x62#8]
  | .bit4E => [0xCB#8, 0x63#8]
  | .bit4H => [0xCB#8, 0x64#8]
  | .bit4L => [0xCB#8, 0x65#8]
  | .bit4AtHl => [0xCB#8, 0x66#8]
  | .bit4A => [0xCB#8, 0x67#8]
  | .bit5B => [0xCB#8, 0x68#8]
  | .bit5C => [0xCB#8, 0x69#8]
  | .bit5D => [0xCB#8, 0x6A#8]
  | .bit5E => [0xCB#8, 0x6B#8]
  | .bit5H => [0xCB#8, 0x6C#8]
  | .bit5L => [0xCB#8, 0x6D#8]
  | .bit5AtHl => [0xCB#8, 0x6E#8]
  | .bit5A => [0xCB#8, 0x6F#8]
  | .bit6B => [0xCB#8, 0x70#8]
  | .bit6C => [0xCB#8, 0x71#8]
  | .bit6D => [0xCB#8, 0x72#8]
  | .bit6E => [0xCB#8, 0x73#8]
  | .bit6H => [0xCB#8, 0x74#8]
  | .bit6L => [0xCB#8, 0x75#8]
  | .bit6AtHl => [0xCB#8, 0x76#8]
  | .bit6A => [0xCB#8, 0x77#8]
  | .bit7B => [0xCB#8, 0x78#8]
  | .bit7C => [0xCB#8, 0x79#8]
  | .bit7D => [0xCB#8, 0x7A#8]
  | .bit7E => [0xCB#8, 0x7B#8]
  | .bit7H => [0xCB#8, 0x7C#8]
  | .bit7L => [0xCB#8, 0x7D#8]
  | .bit7AtHl => [0xCB#8, 0x7E#8]
  | .bit7A => [0xCB#8, 0x7F#8]
  | .res0B => [0xCB#8, 0x80#8]
  | .res0C => [0xCB#8, 0x81#8]
  | .res0D => [0xCB#8, 0x82#8]
  | .res0E => [0xCB#8, 0x83#8]
  | .res0H => [0xCB#8, 0x84#8]
  | .res0L => [0xCB#8, 0x85#8]
  | .res0AtHl => [0xCB#8, 0x86#8]
  | .res0A => [0xCB#8, 0x87#8]
  | .res1B => [0xCB#8, 0x88#8]
  | .res1C => [0xCB#8, 0x89#8]
  | .res1D => [0xCB#8, 0x8A#8]
  | .res1E => [0xCB#8, 0x8B#8]
  | .res1H => [0xCB#8, 0x8C#8]
  | .res1L => [0xCB#8, 0x8D#8]
  | .res1AtHl => [0xCB#8, 0x8E#8]
  | .res1A => [0xCB#8, 0x8F#8]
  | .res2B => [0xCB#8, 0x90#8]
  | .res2C => [0xCB#8, 0x91#8]
  | .res2D => [0xCB#8, 0x92#8]
  | .res2E => [0xCB#8, 0x93#8]
  | .res2H => [0xCB#8, 0x94#8]
  | .res2L => [0xCB#8, 0x95#8]
  | .res2AtHl => [0xCB#8, 0x96#8]
  | .res2A => [0xCB#8, 0x97#8]
  | .res3B => [0xCB#8, 0x98#8]
  | .res3C => [0xCB#8, 0x99#8]
  | .res3D => [0xCB#8, 0x9A#8]
  | .res3E => [0xCB#8, 0x9B#8]
  | .res3H => [0xCB#8, 0x9C#8]
  | .res3L => [0xCB#8, 0x9D#8]
  | .res3AtHl => [0xCB#8, 0x9E#8]
  | .res3A => [0xCB#8, 0x9F#8]
  | .res4B => [0xCB#8, 0xA0#8]
  | .res4C => [0xCB#8, 0xA1#8]
  | .res4D => [0xCB#8, 0xA2#8]
  | .res4E => [0xCB#8, 0xA3#8]
  | .res4H => [0xCB#8, 0xA4#8]
  | .res4L => [0xCB#8, 0xA5#8]
  | .res4AtHl => [0xCB#8, 0xA6#8]
  | .res4A => [0xCB#8, 0xA7#8]
  | .res5B => [0xCB#8, 0xA8#8]
  | .res5C => [0xCB#8, 0xA9#8]
  | .res5D => [0xCB#8, 0xAA#8]
  | .res5E => [0xCB#8, 0xAB#8]
  | .res5H => [0xCB#8, 0xAC#8]
  | .res5L => [0xCB#8, 0xAD#8]
  | .res5AtHl => [0xCB#8, 0xAE#8]
  | .res5A => [0xCB#8, 0xAF#8]
  | .res6B => [0xCB#8, 0xB0#8]
  | .res6C => [0xCB#8, 0xB1#8]
  | .res6D => [0xCB#8, 0xB2#8]
  | .res6E => [0xCB#8, 0xB3#8]
  | .res6H => [0xCB#8, 0xB4#8]
  | .res6L => [0xCB#8, 0xB5#8]
  | .res6AtHl => [0xCB#8, 0xB6#8]
  | .res6A => [0xCB#8, 0xB7#8]
  | .res7B => [0xCB#8, 0xB8#8]
  | .res7C => [0xCB#8, 0xB9#8]
  | .res7D => [0xCB#8, 0xBA#8]
  | .res7E => [0xCB#8, 0xBB#8]
  | .res7H => [0xCB#8, 0xBC#8]
  | .res7L => [0xCB#8, 0xBD#8]
  | .res7AtHl => [0xCB#8, 0xBE#8]
  | .res7A => [0xCB#8, 0xBF#8]
  | .set0B => [0xCB#8, 0xC0#8]
  | .set0C => [0xCB#8, 0xC1#8]
  | .set0D => [0xCB#8, 0xC2#8]
  | .set0E => [0xCB#8, 0xC3#8]
  | .set0H => [0xCB#8, 0xC4#8]
  | .set0L => [0xCB#8, 0xC5#8]
  | .set0AtHl => [0xCB#8, 0xC6#8]
  | .set0A => [0xCB#8, 0xC7#8]
  | .set1B => [0xCB#8, 0xC8#8]
  | .set1C => [0xCB#8, 0xC9#8]
  | .set1D => [0xCB#8, 0xCA#8]
  | .set1E => [0xCB#8, 0xCB#8]
  | .set1H => [0xCB#8, 0xCC#8]
  | .set1L => [0xCB#8, 0xCD#8]
  | .set1AtHl => [0xCB#8, 0xCE#8]
  | .set1A => [0xCB#8, 0xCF#8]
  | .set2B => [0xCB#8, 0xD0#8]
  | .set2C => [0xCB#8, 0xD1#8]
  | .set2D => [0xCB#8, 0xD2#8]
  | .set2E => [0xCB#8, 0xD3#8]
  | .set2H => [0xCB#8, 0xD4#8]
  | .set2L => [0xCB#8, 0xD5#8]
  | .set2AtHl => [0xCB#8, 0xD6#8]
  | .set2A => [0xCB#8, 0xD7#8]
  | .set3B => [0xCB#8, 0xD8#8]
  | .set3C => [0xCB#8, 0xD9#8]
  | .set3D => [0xCB#8, 0xDA#8]
  | .set3E => [0xCB#8, 0xDB#8]
  | .set3H => [0xCB#8, 0xDC#8]
  | .set3L => [0xCB#8, 0xDD#8]
  | .set3AtHl => [0xCB#8, 0xDE#8]
  | .set3A => [0xCB#8, 0xDF#8]
  | .set4B => [0xCB#8, 0xE0#8]
  | .set4C => [0xCB#8, 0xE1#8]
  | .set4D => [0xCB#8, 0xE2#8]
  | .set4E => [0xCB#8, 0xE3#8]
  | .set4H => [0xCB#8, 0xE4#8]
  | .set4L => [0xCB#8, 0xE5#8]
  | .set4AtHl => [0xCB#8, 0xE6#8]
  | .set4A => [0xCB#8, 0xE7#8]
  | .set5B => [0xCB#8, 0xE8#8]
  | .set5C => [0xCB#8, 0xE9#8]
  | .set5D => [0xCB#8, 0xEA#8]
  | .set5E => [0xCB#8, 0xEB#8]
  | .set5H => [0xCB#8, 0xEC#8]
  | .set5L => [0xCB#8, 0xED#8]
  | .set5AtHl => [0xCB#8, 0xEE#8]
  | .set5A => [0xCB#8, 0xEF#8]
  | .set6B => [0xCB#8, 0xF0#8]
  | .set6C => [0xCB#8, 0xF1#8]
  | .set6D => [0xCB#8, 0xF2#8]
  | .set6E => [0xCB#8, 0xF3#8]
  | .set6H => [0xCB#8, 0xF4#8]
  | .set6L => [0xCB#8, 0xF5#8]
  | .set6AtHl => [0xCB#8, 0xF6#8]
  | .set6A => [0xCB#8, 0xF7#8]
  | .set7B => [0xCB#8, 0xF8#8]
  | .set7C => [0xCB#8, 0xF9#8]
  | .set7D => [0xCB#8, 0xFA#8]
  | .set7E => [0xCB#8, 0xFB#8]
  | .set7H => [0xCB#8, 0xFC#8]
  | .set7L => [0xCB#8, 0xFD#8]
  | .set7AtHl => [0xCB#8, 0xFE#8]
  | .set7A => [0xCB#8, 0xFF#8]

end Sys2Proof
end

