-- ==== Sys2Proof/Machine/Fetch.lean ====
section
/-! DEFINITION. What surrounds an instruction's Execute part in a step (spec/42_sequencer.md R211 to R217): decoding IR with
the immediates the fetch unit reads, and the post-fetch. -/

namespace Sys2Proof

/-- The instructions after which the step adds no `FetchNext()`: "if ins is not HALT, STOP, or illegal" (R211). -/
def Instr.ownFetch : Instr → Bool
  | .halt => true
  | .stop => true
  | .illegal _ => true
  | _ => false

/-- The row PREFIX CB, which "selects the second table for the byte that follows" (R93). -/
def Instr.selectsPrefixed : Instr → Bool
  | .prefixCb => true
  | _ => false

namespace Machine

/-- The instruction in IR (R211, Decode) with its immediates, which the fetch unit reads at PC by `Imm8()` or `Imm16()`,
low byte first (R213, R94). In every rule of spec/43_block0.md to 46_block3.md these reads come before anything else
the instruction does. DEDUCED, log 7. -/
def State.fetchInstr (s : State) : Instr × State :=
  match operandCount s.ir with
  | 0 => (decodeUnprefixed s.ir 0#8 0#8, s)
  | 1 => (decodeUnprefixed s.ir s.imm8.1 0#8, s.imm8.2)
  | _ => (decodeUnprefixed s.ir s.imm8.1 s.imm8.2.imm8.1, s.imm8.2.imm8.2)

/-- PostFetch: `FetchNext()` unless the instruction is HALT, STOP or illegal (R211); then the end of the step. -/
def State.postFetch (s : State) (i : Instr) : State :=
  if i.ownFetch then s.settle else s.fetchNext.settle

/-- The state with the bytes of a word of the opcode table put where the next step takes them: the first in IR, the others
at PC and PC + 1 (R27, R211), the core Running and not held in reset. Log 9. -/
def State.putInstrBytes (s : State) (bytes : Byte × Byte × Byte) : State :=
  ((((s.setIr bytes.1).setRun .running).setResetLine false).putByte s.pc bytes.2.1).putByte (s.pc + 1) bytes.2.2

end Machine

end Sys2Proof
end

