-- ==== Sys2Proof/Machine/Step.lean ====
section
/-! DEFINITION. One step of the machine (spec/42_sequencer.md R210, R211, R216, R222, R223). -/

namespace Sys2Proof.Machine

/-- A Running step (R211): decode, execute, post-fetch. After PREFIX CB the second opcode, now in IR, is decoded with the
prefixed table and executed within the same step (R216; log 8). -/
def stepRunning (s : State) : Host.Outcome State Fault Refusal :=
  match exec s.fetchInstr.1 s.fetchInstr.2 with
  | .next t =>
    if s.fetchInstr.1.selectsPrefixed then
      match exec (decodePrefixed t.ir) t with
      | .next u => .next (u.postFetch (decodePrefixed t.ir))
      | .fault r => .fault r
      | .refused r => .refused r
    else .next (t.postFetch s.fetchInstr.1)
  | .fault r => .fault r
  | .refused r => .refused r

/-- One step (R210). A reset that is asserted comes first (R450; log 4). -/
def step (s : State) : Host.Outcome State Fault Refusal :=
  if s.resetLine then .next s.applyReset
  else
    match s.run with
    | .running => stepRunning s
    | .halted => .next s.stepHalted.settle
    | .stopped => s.stuck .stopped
    | .locked => s.stuck .lockedUp

/-- `s` with an instruction of the opcode table stored where `step` takes its next instruction (log 9). -/
def State.withFetchWord (s : State) (nbits w : Nat) : State := s.putInstrBytes (tableBytes nbits w)

end Sys2Proof.Machine
end

