-- ==== Sys2Proof/Machine/Timing.lean ====
section
/-! DEFINITION. The machine cycles of the instructions, final opcode fetch included (spec/70_reset_and_hazards.md R460,
R461; the `cycles` column of spec/opcode_table.json). The step does not use this table: it emits one trace entry per
machine cycle, and the table says how many that must be. -/

namespace Sys2Proof

/-- The counts of the unprefixed rows in opcode order, sixteen a line, a conditional row counted as taken (R460). STOP and the
illegal rows count 0, HALT is counted as with something already pending, PREFIX CB is not counted here. -/
def unprefixedCycles : List Nat :=
  [1, 3, 2, 2, 1, 1, 2, 1, 5, 2, 2, 2, 1, 1, 2, 1] ++
  [0, 3, 2, 2, 1, 1, 2, 1, 3, 2, 2, 2, 1, 1, 2, 1] ++
  [3, 3, 2, 2, 1, 1, 2, 1, 3, 2, 2, 2, 1, 1, 2, 1] ++
  [3, 3, 2, 2, 3, 3, 3, 1, 3, 2, 2, 2, 1, 1, 2, 1] ++
  [1, 1, 1, 1, 1, 1, 2, 1, 1, 1, 1, 1, 1, 1, 2, 1] ++
  [1, 1, 1, 1, 1, 1, 2, 1, 1, 1, 1, 1, 1, 1, 2, 1] ++
  [1, 1, 1, 1, 1, 1, 2, 1, 1, 1, 1, 1, 1, 1, 2, 1] ++
  [2, 2, 2, 2, 2, 2, 1, 2, 1, 1, 1, 1, 1, 1, 2, 1] ++
  [1, 1, 1, 1, 1, 1, 2, 1, 1, 1, 1, 1, 1, 1, 2, 1] ++
  [1, 1, 1, 1, 1, 1, 2, 1, 1, 1, 1, 1, 1, 1, 2, 1] ++
  [1, 1, 1, 1, 1, 1, 2, 1, 1, 1, 1, 1, 1, 1, 2, 1] ++
  [1, 1, 1, 1, 1, 1, 2, 1, 1, 1, 1, 1, 1, 1, 2, 1] ++
  [5, 3, 4, 4, 6, 4, 2, 4, 5, 4, 4, 2, 6, 6, 2, 4] ++
  [5, 3, 4, 0, 6, 4, 2, 4, 5, 4, 4, 0, 6, 0, 2, 4] ++
  [3, 3, 2, 0, 0, 4, 2, 4, 4, 1, 4, 0, 0, 0, 2, 4] ++
  [3, 3, 2, 1, 0, 4, 2, 4, 3, 2, 4, 1, 0, 0, 2, 4]

/-- The conditional rows that cost 2 cycles when not taken: JR cc, RET cc (R460). -/
def notTakenTwo : List Byte := [0x20, 0x28, 0x30, 0x38, 0xC0, 0xC8, 0xD0, 0xD8]

/-- The conditional rows that cost 3 cycles when not taken: JP cc, CALL cc (R460). -/
def notTakenThree : List Byte := [0xC2, 0xCA, 0xD2, 0xDA, 0xC4, 0xCC, 0xD4, 0xDC]

/-- The count of an unprefixed opcode (R460, R461). -/
def opcodeCycles (op : Byte) (taken : Bool) : Nat :=
  if !taken && decide (op ∈ notTakenTwo) then 2
  else if !taken && decide (op ∈ notTakenThree) then 3
  else unprefixedCycles.getD op.toNat 0

/-- The count of a CB-prefixed instruction, the fetch of `op2` included (R380). -/
def prefixedCycles (op2 : Byte) : Nat :=
  if opZ op2 ≠ 6 then 2 else if opX op2 = 1 then 3 else 4

/-- The machine cycles that the next Running step costs, a dispatch at its end not counted: only the conditional rows depend
on data (R461). -/
def Machine.State.stepCycles (s : Machine.State) : Nat :=
  if s.ir = 0xCB#8 then prefixedCycles (s.readByte s.pc)
  else opcodeCycles s.ir (s.cond (Cond.ofIndex (opY s.ir % 4)))

/-- The length of a dispatch (R406, R9). -/
def dispatchCycles : Nat := 5

end Sys2Proof
end

