-- ==== Sys2Proof/Safety.lean ====
section
/-! DEFINITION. The terms in which claims are stated: CORE's own registers, what CORE does on its bus between two states,
what the environment leaves alone, the invariant of the machine, and runs that have not gone wrong. -/

namespace Sys2Proof.Machine

/-! ### CORE's own state -/

/-- The complete state of CORE (R20), without what lies behind its ports. -/
structure Regs where
  a : Byte
  f : Byte
  b : Byte
  c : Byte
  d : Byte
  e : Byte
  h : Byte
  l : Byte
  sp : Word
  pc : Word
  ir : Byte
  ime : Bool
  eiPending : Bool
  run : RunState
deriving DecidableEq, Repr

/-- CORE's own state in a machine state. -/
def State.regs (s : State) : Regs where
  a := s.a
  f := s.f
  b := s.b
  c := s.c
  d := s.d
  e := s.e
  h := s.h
  l := s.l
  sp := s.sp
  pc := s.pc
  ir := s.ir
  ime := s.ime
  eiPending := s.eiPending
  run := s.run

/-- The value of a register of table `r`; index 6 is no register. -/
def Regs.r8 (g : Regs) : R8 → Byte
  | .b => g.b
  | .c => g.c
  | .d => g.d
  | .e => g.e
  | .h => g.h
  | .l => g.l
  | .atHl => 0#8
  | .a => g.a

/-- One register of table `r` changed; index 6 is no register and changes none. -/
def Regs.withR8 (g : Regs) (r : R8) (v : Byte) : Regs :=
  match r with
  | .b => { g with b := v }
  | .c => { g with c := v }
  | .d => { g with d := v }
  | .e => { g with e := v }
  | .h => { g with h := v }
  | .l => { g with l := v }
  | .atHl => g
  | .a => { g with a := v }

/-- One pair of table `rp` changed to `{hi, lo}`. -/
def Regs.withRp (g : Regs) (p : Rp) (hi lo : Byte) : Regs :=
  match p with
  | .bc => { g with b := hi, c := lo }
  | .de => { g with d := hi, e := lo }
  | .hl => { g with h := hi, l := lo }
  | .sp => { g with sp := hi ++ lo }

/-- The value of a pair of table `rp`. -/
def Regs.rp (g : Regs) : Rp → Word
  | .bc => pair g.b g.c
  | .de => pair g.d g.e
  | .hl => pair g.h g.l
  | .sp => g.sp

/-- The value of a pair of table `rp2`. -/
def Regs.rp2 (g : Regs) : Rp2 → Word
  | .bc => pair g.b g.c
  | .de => pair g.d g.e
  | .hl => pair g.h g.l
  | .af => pair g.a g.f

/-- One pair of table `rp2` changed to `{hi, lo}`; F takes bits 7:4 only (R28). -/
def Regs.withRp2 (g : Regs) (p : Rp2) (hi lo : Byte) : Regs :=
  match p with
  | .bc => { g with b := hi, c := lo }
  | .de => { g with d := hi, e := lo }
  | .hl => { g with h := hi, l := lo }
  | .af => { g with a := hi, f := lo &&& 0xF0#8 }

/-- The byte F with the four flags given (R28): `{Z, N, H, C, 0b0000}`. -/
def flagByte (z n h c : Bool) : Byte :=
  BitVec.ofBool z ++ BitVec.ofBool n ++ BitVec.ofBool h ++ BitVec.ofBool c ++ 0#4

/-! ### The bus -/

/-- The byte at `addr` after the writes of `cycles`, in order, if it was `v` before them. -/
def storedBy (addr : Word) : List BusCycle → Byte → Byte
  | [], v => v
  | .write a w :: rest, v => storedBy addr rest (if addr = a then w else v)
  | .read _ _ :: rest, v => storedBy addr rest v
  | .idle :: rest, v => storedBy addr rest v

/-- The addresses an action of the environment changes. -/
def EnvAction.touches (x : EnvAction) (addr : Word) : Prop :=
  match x with
  | .write a _ => a = addr
  | .request _ => Config.ifAddr = addr
  | .reset => False

/-- In its next `n` machine cycles the environment does not change the byte at `addr`. -/
def State.EnvSpares (s : State) (n : Nat) (addr : Word) : Prop :=
  ∀ c ∈ s.env.take n, ∀ x ∈ c, ¬x.touches addr

/-- From `s` to `t` CORE spent exactly the machine cycles `cycles`, oldest first: they are what its trace gained (R219), the
environment acted in as many cycles (R8), and every byte that the environment spared in them holds what the writes of
`cycles` left there, so that a byte no write of `cycles` names reads as before. -/
structure Emits (s t : State) (cycles : List BusCycle) : Prop where
  trace : t.trace = cycles.reverse ++ s.trace
  env : t.env = s.env.drop cycles.length
  line : t.resetLine = s.resetLine
  mem : ∀ addr, s.EnvSpares cycles.length addr → t.readByte addr = storedBy addr cycles (s.readByte addr)

/-- No reset is asserted, and the script asserts none. -/
def State.NoReset (s : State) : Prop := s.resetLine = false ∧ ∀ c ∈ s.env, EnvAction.reset ∉ c

/-- The environment only holds memory and asserts no reset: the `FlatRAM` of R8. -/
def State.Flat (s : State) : Prop := s.resetLine = false ∧ s.env = []

/-- The value that a read of operand `r` gives now: a register, or for index 6 the byte at HL (R181, R183). -/
def State.operand (s : State) : R8 → Byte
  | .atHl => s.readByte s.hl
  | r => s.regs.r8 r

/-- The machine cycles of a read of operand `r` now: none for a register (R181, R183). -/
def State.operandRead (s : State) : R8 → List BusCycle
  | .atHl => [.read s.hl (s.readByte s.hl)]
  | _ => []

/-- The machine cycles of a write of operand `r` at the HL that `s` has: none for a register (R181, R183). -/
def State.operandWrite (s : State) (r : R8) (v : Byte) : List BusCycle :=
  match r with
  | .atHl => [.write s.hl v]
  | _ => []

/-- The meaning of `i` at `s` answers a next state: in it CORE's registers are `g`, and on the way there CORE spent exactly
the machine cycles `cycles`. -/
def Completes (i : Instr) (s : State) (g : Regs) (cycles : List BusCycle) : Prop :=
  ∃ t : State, exec i s = .next t ∧ t.regs = g ∧ Emits s t cycles

/-! ### Reset -/

/-- CORE is in the state of R451, whatever the registers hold to which that rule gives no value. -/
structure State.AfterReset (s : State) : Prop where
  pc : s.pc = 0x0000#16
  ir : s.ir = 0x00#8
  ime : s.ime = false
  ei : s.eiPending = false
  run : s.run = .running
  flags : s.f &&& 0x0F#8 = 0#8

/-! ### The invariant -/

/-- "the low nibble of AF's low byte is always zero" (R28). -/
def State.FlagsClean (s : State) : Prop := s.f &&& 0x0F#8 = 0#8

/-- The invariant of the machine between steps: memory is in its canonical form, F[3:0] is 0 (R28), no EI is waiting, since
EI's own boundary commits it (R215, R32), and no reset is left unserved (log 4). -/
structure State.Inv (s : State) : Prop where
  mem : s.mem.wf = true
  flags : s.FlagsClean
  ei : s.eiPending = false
  line : s.resetLine = false

/-! ### Runs -/

/-- The core has reached one of the two stuck states of R223. -/
def State.IsStuck (s : State) : Prop := s.run = .stopped ∨ s.run = .locked

/-- A run of `k` steps that has not gone wrong: it answers a state, and that state is not stuck ("never as a normal end",
R223). -/
def SafeRun (k : Nat) (s : State) : Prop := ∃ t : State, Sys2Proof.core.run k s = .next t ∧ ¬t.IsStuck

end Sys2Proof.Machine
end

