-- ==== Sys2Proof/Certificates/Slice0/Obligations.lean ====
section
/-! DEFINITION. The statements for the provers. In them `Completes i s g cycles` (Sys2Proof/Safety.lean) says that the meaning
of `i` at `s` answers a next state with the registers `g` after exactly the machine cycles `cycles`: every register, byte
of memory and input that `g` and `cycles` do not name is unchanged, but for bytes that the environment itself writes. -/

section Statements

open Sys2Proof Sys2Proof.Machine

/-! ### Encoding -/

/-- Every well-formed instruction is decoded from its encoding, whatever bytes follow (R90, R94 to R99). The row
PREFIX CB is left out of the first clause because the byte after 0xCB makes another instruction of it (R93); the other
two clauses are that row. -/
def Obligations.DecodeOfEncodeIsTheInstruction : Prop :=
  (∀ (i : Instr) (rest : List Byte), i.wellFormed = true → i ≠ .prefixCb → decode (encode i ++ rest) = .ok i) ∧
    encode .prefixCb = [0xCB#8] ∧ decode [0xCB#8] = .ok .prefixCb

/-- The other direction: no two instructions share bytes, and none is decoded from fewer bytes than it has (R90, R102,
R106). After 0x10 the second byte is "skipped, not read" (R90, log 10). -/
def Obligations.EncodeOfDecodeIsTheBytes : Prop :=
  ∀ (bytes : List Byte) (i : Instr), decode bytes = .ok i →
    i.wellFormed = true ∧ (bytes.head? ≠ some 0x10#8 → ∃ rest, bytes = encode i ++ rest)

/-- R106: "decoding itself never fails"; what is missing is named. How many bytes an opcode asks for is the length of R102
less one, but for two that are the model's reading: 0x10 asks for none, since the second byte of STOP is "skipped, not
read" (R90; log 10, DEDUCED), and 0xCB asks for none, since alone it is the row PREFIX CB of the table (R108; log 9,
DEDUCED). -/
def Obligations.DecoderRejectsOnlyMissingBytes : Prop :=
  decode [] = .error .noOpcode ∧
  ∀ (op : Byte) (rest : List Byte),
    let need : Nat := if op = 0x10#8 ∨ op = 0xCB#8 then 0 else lengthOf op - 1
    (need ≤ rest.length → ∃ i, decode (op :: rest) = .ok i) ∧
    (rest.length < need → decode (op :: rest) = .error .missingImmediate)

/-- A sanity statement: words written out from the encodings of R95 to R99, immediates low byte first (R94). -/
def Obligations.WordsWrittenOutFromTheTableDecode : Prop :=
  decode [0x00#8] = .ok .nop ∧ decode [0x08#8, 0x00#8, 0xC1#8] = .ok (.ldAtA16Sp 0xC100#16) ∧
  decode [0x10#8, 0x00#8] = .ok .stop ∧ decode [0x18#8, 0xFE#8] = .ok (.jrE8 0xFE#8) ∧
  decode [0x21#8, 0x34#8, 0x12#8] = .ok (.ldHlD16 0x1234#16) ∧ decode [0x3E#8, 0x42#8] = .ok (.ldAD8 0x42#8) ∧
  decode [0x41#8] = .ok .ldBC ∧ decode [0x76#8] = .ok .halt ∧ decode [0x9C#8] = .ok .sbcAH ∧
  decode [0xCB#8, 0x65#8] = .ok .bit4L ∧ decode [0xCB#8, 0x36#8] = .ok .swapAtHl ∧
  decode [0xCD#8, 0x34#8, 0x12#8] = .ok (.callA16 0x1234#16) ∧ decode [0xD3#8] = .ok (.illegal 0xD3#8) ∧
  decode [0xE0#8, 0xFF#8] = .ok (.ldhAtA8A 0xFF#8) ∧ decode [0xEF#8] = .ok .rst28

/-- R100, and "All 256 values of `op2` are defined; none is illegal" (R99). -/
def Obligations.IllegalOpcodesAreTheEleven : Prop :=
  (∀ op b1 b2 op' : Byte, decodeUnprefixed op b1 b2 = .illegal op' ↔
    op' = op ∧ op ∈ [0xD3#8, 0xDB#8, 0xDD#8, 0xE3#8, 0xE4#8, 0xEB#8, 0xEC#8, 0xED#8, 0xF4#8, 0xFC#8, 0xFD#8]) ∧
  ∀ op2 op' : Byte, decodePrefixed op2 ≠ .illegal op'

/-! ### The ALU -/

/-- R133, whole: the majority recursion, its meaning as the carry out of bit `i`, and the two integer forms. -/
def Obligations.CarryVectorIsTheCarries : Prop :=
  ∀ (a b : Byte) (ci : Bool),
    let cv : Byte := Alu.carries a b ci
    let maj (x y z : Bool) : Bool := (x && y) || (x && z) || (y && z)
    cv.getLsbD 0 = maj (a.getLsbD 0) (b.getLsbD 0) ci ∧
    (∀ i, i < 7 → cv.getLsbD (i + 1) = maj (a.getLsbD (i + 1)) (b.getLsbD (i + 1)) (cv.getLsbD i)) ∧
    (∀ i, i < 8 → cv.getLsbD i =
      decide (2 ^ (i + 1) ≤ a.toNat % 2 ^ (i + 1) + b.toNat % 2 ^ (i + 1) + ci.toNat)) ∧
    cv.getLsbD 3 = decide (0x0F < (a &&& 0x0F#8).toNat + (b &&& 0x0F#8).toNat + ci.toNat) ∧
    cv.getLsbD 7 = decide (0xFF < a.toNat + b.toNat + ci.toNat)

/-- R134, whole: the result, the four flags as the rule defines them, and what H and C mean over the integers. -/
def Obligations.AddAndAdcComputeSumAndFlags : Prop :=
  ∀ (a b : Byte) (ci : Bool),
    let n : Nat := a.toNat + b.toNat + ci.toNat
    let cv : Byte := Alu.carries a b ci
    Alu.adc a b ci = (BitVec.ofNat 8 n,
      { z := some (decide (n % 256 = 0)), n := some false, h := some (cv.getLsbD 3), c := some (cv.getLsbD 7) }) ∧
    Alu.add a b = Alu.adc a b false ∧
    cv.getLsbD 3 = decide (15 < a.toNat % 16 + b.toNat % 16 + ci.toNat) ∧ cv.getLsbD 7 = decide (256 ≤ n)

/-- R135, whole: the result in both forms, the borrow vector, and what H and C mean over the integers. -/
def Obligations.SubAndSbcComputeDifferenceAndFlags : Prop :=
  ∀ (a b : Byte) (bi : Bool),
    let r : Byte := BitVec.ofNat 8 (a.toNat + 256 - (b.toNat + bi.toNat))
    let bv : Byte := ~~~(Alu.carries a (~~~b) (!bi))
    Alu.sbc a b bi = (r,
      { z := some (decide (r = 0#8)), n := some true, h := some (bv.getLsbD 3), c := some (bv.getLsbD 7) }) ∧
    r = BitVec.ofNat 8 (a.toNat + (~~~b).toNat + (1 - bi.toNat)) ∧
    Alu.sub a b = Alu.sbc a b false ∧
    bv.getLsbD 3 = decide (a.toNat % 16 < b.toNat % 16 + bi.toNat) ∧
    bv.getLsbD 7 = decide (a.toNat < b.toNat + bi.toNat)

/-- R136 and R137, whole. -/
def Obligations.IncAndDecLeaveCarryOut : Prop :=
  ∀ a : Byte,
    Alu.inc a = ((Alu.add a 1#8).1, { (Alu.add a 1#8).2 with c := none }) ∧
    Alu.inc a = (BitVec.ofNat 8 (a.toNat + 1),
      { z := some (decide (a.toNat = 255)), n := some false, h := some (decide (a.toNat % 16 = 15)), c := none }) ∧
    Alu.dec a = ((Alu.sub a 1#8).1, { (Alu.sub a 1#8).2 with c := none }) ∧
    Alu.dec a = (BitVec.ofNat 8 (a.toNat + 255),
      { z := some (decide (a.toNat = 1)), n := some true, h := some (decide (a.toNat % 16 = 0)), c := none })

/-- R138, R139, R140, whole. -/
def Obligations.LogicOperationsAndTheirFlags : Prop :=
  ∀ a b : Byte,
    let flags (r : Byte × FlagChange) (h : Bool) : Prop :=
      r.2 = { z := some (decide (r.1 = 0#8)), n := some false, h := some h, c := some false }
    (∀ i, i < 8 → (Alu.and a b).1.getLsbD i = (a.getLsbD i && b.getLsbD i)) ∧ flags (Alu.and a b) true ∧
    (∀ i, i < 8 → (Alu.or a b).1.getLsbD i = (a.getLsbD i || b.getLsbD i)) ∧ flags (Alu.or a b) false ∧
    (∀ i, i < 8 → (Alu.xor a b).1.getLsbD i = (a.getLsbD i != b.getLsbD i)) ∧ flags (Alu.xor a b) false

/-- R141 to R149, whole, bit by bit. -/
def Obligations.RotatesAndShiftsMoveEveryBit : Prop :=
  ∀ (a : Byte) (ci : Bool),
    let flags (r : Byte × FlagChange) (c : Bool) : Prop :=
      r.2 = { z := some (decide (r.1 = 0#8)), n := some false, h := some false, c := some c }
    let bits (r : Byte × FlagChange) (f : Nat → Bool) : Prop := ∀ i, i < 8 → r.1.getLsbD i = f i
    (bits (Alu.rlc a) (fun i => a.getLsbD ((i + 7) % 8)) ∧ flags (Alu.rlc a) (a.getLsbD 7)) ∧
    (bits (Alu.rrc a) (fun i => a.getLsbD ((i + 1) % 8)) ∧ flags (Alu.rrc a) (a.getLsbD 0)) ∧
    (bits (Alu.rl a ci) (fun i => if i = 0 then ci else a.getLsbD (i - 1)) ∧ flags (Alu.rl a ci) (a.getLsbD 7)) ∧
    (bits (Alu.rr a ci) (fun i => if i = 7 then ci else a.getLsbD (i + 1)) ∧ flags (Alu.rr a ci) (a.getLsbD 0)) ∧
    (bits (Alu.sla a) (fun i => if i = 0 then false else a.getLsbD (i - 1)) ∧ flags (Alu.sla a) (a.getLsbD 7)) ∧
    (bits (Alu.sra a) (fun i => if i = 7 then a.getLsbD 7 else a.getLsbD (i + 1)) ∧
      flags (Alu.sra a) (a.getLsbD 0)) ∧
    (bits (Alu.srl a) (fun i => if i = 7 then false else a.getLsbD (i + 1)) ∧ flags (Alu.srl a) (a.getLsbD 0)) ∧
    (bits (Alu.swap a) (fun i => a.getLsbD ((i + 4) % 8)) ∧ flags (Alu.swap a) false) ∧
    ∀ r ∈ [Alu.rlc a, Alu.rrc a, Alu.rl a ci, Alu.rr a ci],
      Alu.accRotate r = (r.1, { z := some false, n := some false, h := some false, c := r.2.c })

/-- R150 to R154, whole; which flags are absent is the resolution of conflict C2. The empty changesets of res and set
are that they answer a byte alone. -/
def Obligations.BitAndFlagOperationsTouchWhatTheyName : Prop :=
  ∀ (a : Byte) (ci : Bool),
    (∀ n, n < 8 → Alu.test n a = { z := some (!a.getLsbD n), n := some false, h := some true, c := none } ∧
      (∀ i, i < 8 → (Alu.res n a).getLsbD i = (a.getLsbD i && decide (i ≠ n))) ∧
      (∀ i, i < 8 → (Alu.set n a).getLsbD i = (a.getLsbD i || decide (i = n)))) ∧
    (∀ i, i < 8 → (Alu.cpl a).1.getLsbD i = !a.getLsbD i) ∧
    (Alu.cpl a).2 = { z := none, n := some true, h := some true, c := none } ∧
    Alu.scf = { z := none, n := some false, h := some false, c := some true } ∧
    Alu.ccf ci = { z := none, n := some false, h := some false, c := some (!ci) }

/-- R155, whole, computed on natural numbers modulo 256. -/
def Obligations.DaaFollowsItsProgram : Prop :=
  ∀ (a : Byte) (n h c : Bool),
    let c1 : Bool := if n then c else c || decide (0x99 < a.toNat)
    let r1 : Nat := if c1 then (if n then (a.toNat + 256 - 0x60) % 256 else (a.toNat + 0x60) % 256) else a.toNat
    let low : Bool := if n then h else h || decide (9 < r1 % 16)
    let r2 : Nat := if low then (if n then (r1 + 256 - 0x06) % 256 else (r1 + 0x06) % 256) else r1
    Alu.daa a n h c =
      (BitVec.ofNat 8 r2, { z := some (decide (r2 = 0)), n := none, h := some false, c := some c1 })

/-- What "decimal adjust" (R155) is for, in general; the rule shows it on one example (R267: 45 + 38 = 83). -/
def Obligations.DaaMakesArithmeticDecimal : Prop :=
  ∀ (x y : Nat) (ci : Bool), x < 100 → y < 100 →
    let bcd (k : Nat) : Byte := BitVec.ofNat 8 (k / 10 * 16 + k % 10)
    let s := Alu.adc (bcd x) (bcd y) ci
    let d := Alu.sbc (bcd x) (bcd y) ci
    let s' := Alu.daa s.1 false (s.2.h.getD false) (s.2.c.getD false)
    let d' := Alu.daa d.1 true (d.2.h.getD false) (d.2.c.getD false)
    (s'.1 = bcd ((x + y + ci.toNat) % 100) ∧ s'.2.c = some (decide (100 ≤ x + y + ci.toNat))) ∧
    (d'.1 = bcd ((x + 200 - y - ci.toNat) % 100) ∧ d'.2.c = some (decide (x < y + ci.toNat)))

/-- R156, whole: the sum, what H and C are, and the two passes. -/
def Obligations.Add16CarriesFromBits11And15 : Prop :=
  ∀ hl v : Word,
    Alu.add16 hl v = (BitVec.ofNat 16 (hl.toNat + v.toNat),
      { z := none, n := some false, h := some (decide (0x0FFF < hl.toNat % 4096 + v.toNat % 4096)),
        c := some (decide (0xFFFF < hl.toNat + v.toNat)) }) ∧
    let lo := Alu.add (loByte hl) (loByte v)
    let hi := Alu.adc (hiByte hl) (hiByte v) (lo.2.c.getD false)
    Alu.add16 hl v = (pair hi.1 lo.1, { z := none, n := some false, h := hi.2.h, c := hi.2.c })

/-- R157, whole: the sum, the flags, and the two bytes as the rule computes them. -/
def Obligations.SpPlusEIsASignedSumWithLowByteFlags : Prop :=
  ∀ (sp : Word) (e : Byte),
    let lo := Alu.add (loByte sp) e
    let carry : Nat := (lo.2.c.getD false).toNat
    let hi : Byte := if e.getLsbD 7 then hiByte sp - BitVec.ofNat 8 (1 - carry) else hiByte sp + BitVec.ofNat 8 carry
    Alu.spPlusE sp e = (sp + e.signExtend 16,
      { z := some false, n := some false, h := some (decide (15 < sp.toNat % 16 + e.toNat % 16)),
        c := some (decide (255 < sp.toNat % 256 + e.toNat)) }) ∧
    (Alu.spPlusE sp e).1 = pair hi lo.1

/-- R131, whole. -/
def Obligations.ApplyWritesOnlyThePresentFlags : Prop :=
  ∀ (s : State) (ch : FlagChange),
    let t := s.applyFlags ch
    t.f.getLsbD 7 = ch.z.getD (s.f.getLsbD 7) ∧ t.f.getLsbD 6 = ch.n.getD (s.f.getLsbD 6) ∧
    t.f.getLsbD 5 = ch.h.getD (s.f.getLsbD 5) ∧ t.f.getLsbD 4 = ch.c.getD (s.f.getLsbD 4) ∧
    t.f &&& 0x0F#8 = 0#8 ∧ t = { s with f := t.f }

/-- R22 and R23, whole; for AF the low half is stored with bits 3:0 clear (R28), so that for l[3:0] = 0 it is l. -/
def Obligations.PairsAreTheirHalves : Prop :=
  ∀ (s : State) (h l : Byte),
    let n : Nat := h.toNat * 256 + l.toNat
    (((s.setB h).setC l).bc.toNat = n ∧ ((s.setB h).setC l).b = h ∧ ((s.setB h).setC l).c = l ∧
      s.setBC (pair h l) = (s.setB h).setC l ∧ (s.setB h).c = s.c ∧ (s.setC l).b = s.b) ∧
    (((s.setD h).setE l).de.toNat = n ∧ ((s.setD h).setE l).d = h ∧ ((s.setD h).setE l).e = l ∧
      s.setDE (pair h l) = (s.setD h).setE l ∧ (s.setD h).e = s.e ∧ (s.setE l).d = s.d) ∧
    (((s.setH h).setL l).hl.toNat = n ∧ ((s.setH h).setL l).h = h ∧ ((s.setH h).setL l).l = l ∧
      s.setHL (pair h l) = (s.setH h).setL l ∧ (s.setH h).l = s.l ∧ (s.setL l).h = s.h) ∧
    (((s.setA h).setF l).af.toNat = n - l.toNat % 16 ∧ ((s.setA h).setF l).a = h ∧
      ((s.setA h).setF l).f = l &&& 0xF0#8 ∧ s.setAF (pair h l) = (s.setA h).setF l ∧
      (s.setA h).f = s.f ∧ (s.setF l).a = s.a)

/-! ### A step -/

/-- R211, R213, R216: how the meanings reach a run. `s'` is the state after the bytes that follow the opcode have been
read. That the step reads all of them before the meaning runs is the model's reading of the instruction rules (log 7,
DEDUCED), as is that the second opcode of a CB-prefixed instruction is one of them (log 8, DEDUCED) and the second byte of
STOP is not (`k = 0`; log 10, DEDUCED). -/
def Obligations.StepRunsTheDecodedInstruction : Prop :=
  ∀ (s : State) (i : Instr), s.NoReset → s.run = .running → s.EnvSpares 1 (s.pc + 1) →
    decode [s.ir, s.readByte s.pc, s.readByte (s.pc + 1)] = .ok i →
    let k : Nat := if s.ir = 0x10#8 then 0 else lengthOf s.ir - 1
    let reads : List BusCycle :=
      [.read s.pc (s.readByte s.pc), .read (s.pc + 1) (s.readByte (s.pc + 1))].take k
    ∃ s' t : State,
      s'.regs = { s.regs with pc := s.pc + BitVec.ofNat 16 k,
                              ir := if s.ir = 0xCB#8 then s.readByte s.pc else s.ir } ∧
      Emits s s' reads ∧ exec i s' = .next t ∧
      step s = .next (if i = .halt ∨ i = .stop ∨ i = .illegal s.ir then t else t.fetchNext)

/-- F[3:0] is R28's "Invariant: the low nibble of AF's low byte is always zero"; that `ei_pending` is committed at its
own boundary is R215; the canonical form is the model's (log 2), and so is the reset line (log 4). -/
def Obligations.EveryStepKeepsTheInvariant : Prop :=
  ∀ s t : State, s.Inv → step s = .next t → t.Inv

/-- The start of the invariant (R41). -/
def Obligations.ResetMeetsTheInvariant : Prop :=
  State.reset.Inv

/-- R451 and R41: the values that the spec gives, and the first step for every value of what it leaves open (log 3
plays no part). -/
def Obligations.FirstStepAfterResetFetchesAddressZero : Prop :=
  State.reset.AfterReset ∧
  ∀ s : State, s.AfterReset → s.NoReset → ∃ t : State,
    step s = .next t ∧ t.regs = { s.regs with ir := s.readByte 0x0000#16, pc := 0x0001#16 } ∧
    Emits s t [.read 0x0000#16 (s.readByte 0x0000#16)]

/-- R450 and R451, with the model's reset input (log 4): reset ends every run state and abandons the instruction, "the
writes already issued stay issued", and nothing is issued after it. The clauses: a reset asserted before the step; a reset
in one of the cycles `spent` that the step uses up, which is then the last of them (a Stopped or Locked core puts nothing
out in them, log 6); a reset in the first cycle, of which the step uses up no more. A byte that the environment does not
touch holds what the writes of the trace left there; IF may have lost the bit of a line whose acknowledge (R407), which is
not in the trace, came before the reset. -/
def Obligations.ResetAbandonsWhateverRuns : Prop :=
  (∀ s : State, s.resetLine = true → ∃ t : State,
    step s = .next t ∧ t.AfterReset ∧ t.mem = s.mem ∧ t.env = s.env ∧ t.trace = s.trace) ∧
  (∀ s t : State, step s = .next t → ∀ spent : List EnvCycle, s.env = spent ++ t.env →
    (∃ c ∈ spent, EnvAction.reset ∈ c) →
    t.AfterReset ∧ (∀ c ∈ spent.dropLast, EnvAction.reset ∉ c) ∧
    ∃ cycles : List BusCycle, t.trace = cycles.reverse ++ s.trace ∧
      cycles.length = (if s.run = .stopped ∨ s.run = .locked then 0 else spent.length) ∧
      ∀ addr : Word, (∀ c ∈ spent, ∀ x ∈ c, ¬x.touches addr) →
        let kept : Byte := storedBy addr cycles (s.readByte addr)
        t.readByte addr = kept ∨ addr = 0xFF0F#16 ∧ ∃ n, t.readByte addr = kept &&& ~~~(lineBit n)) ∧
  (∀ (s : State) (c : EnvCycle) (rest : List EnvCycle), s.resetLine = false → s.env = c :: rest → EnvAction.reset ∈ c →
    (s.run = .halted ∨ s.run = .running ∧ 0 < s.stepCycles ∧ (s.ir = 0x76#8 → s.pending ≠ 0#8)) →
    ∃ (t : State) (k : BusCycle), step s = .next t ∧ t.AfterReset ∧ t.env = rest ∧ t.trace = k :: s.trace ∧
      ∀ addr : Word, (∀ x ∈ c, ¬x.touches addr) → t.readByte addr = storedBy addr [k] (s.readByte addr))

/-- R223: Stopped and Locked "have no step" and "only reset leaves them"; everywhere else "no operation can fail"
(R132). That the stuck core moves when the script holds a reset is log 6. -/
def Obligations.OnlyStoppedAndLockedHaveNoStep : Prop :=
  (∀ (s : State) (r : Refusal), step s ≠ .refused r) ∧
  (∀ (s : State) (r : Fault), step s = .fault r →
    s.NoReset ∧ ((s.run = .stopped ∧ r = .stopped) ∨ (s.run = .locked ∧ r = .lockedUp))) ∧
  (∀ s : State, s.NoReset → s.run = .stopped → step s = .fault .stopped) ∧
  (∀ s : State, s.NoReset → s.run = .locked → step s = .fault .lockedUp) ∧
  (∀ s : State, s.IsStuck → (∃ c ∈ s.env, EnvAction.reset ∈ c) → ∃ t : State, step s = .next t ∧ t.AfterReset)

/-- R132 and R193: "no operation can fail"; R60: CORE "refuses none and faults on none" of the addresses. The illegal
opcodes answer the state Locked (R401). -/
def Obligations.EveryInstructionAnswersANextState : Prop :=
  ∀ (i : Instr) (s : State), ∃ t : State, exec i s = .next t

/-- R401: the lock-up is raised "when, and only when" an illegal opcode is decoded, and "nothing else changes"; R242
the same of STOP; R293 when HALT halts. -/
def Obligations.RunningIsLeftOnlyByHaltStopAndIllegal : Prop :=
  ∀ s t : State, s.NoReset → s.run = .running → step s = .next t →
    (t.run = .locked ↔
      s.ir ∈ [0xD3#8, 0xDB#8, 0xDD#8, 0xE3#8, 0xE4#8, 0xEB#8, 0xEC#8, 0xED#8, 0xF4#8, 0xFC#8, 0xFD#8]) ∧
    (t.run = .stopped ↔ s.ir = 0x10#8) ∧
    (t.run = .halted ↔ s.ir = 0x76#8 ∧ s.pending = 0#8) ∧
    (t.run = .locked → t = { s with run := .locked }) ∧ (t.run = .stopped → t = { s with run := .stopped })

/-- R412, and R451's "nothing can be dispatched before the program executes EI or RETI". HALT is named because it
manages its own fetch (R293), which ends in the interrupt check. -/
def Obligations.ImeRisesOnlyByEiAndReti : Prop :=
  (∀ s t : State, s.ime = false → s.eiPending = false → step s = .next t → t.ime = true →
    s.run = .running ∧ (s.ir = 0xFB#8 ∨ s.ir = 0xD9#8)) ∧
  (∀ (i : Instr) (s t : State), exec i s = .next t → i ∉ [.di, .ei, .reti, .halt] →
    t.ime = s.ime ∧ t.eiPending = s.eiPending) ∧
  (∀ (i : Instr) (s t : State), exec i s = .next t → i ∉ [.halt, .stop, .prefixCb] → (∀ op, i ≠ .illegal op) →
    t.run = s.run ∧ t.ir = s.ir)

/-- R27, over the `FlatRAM` of R8: "PC holds the address of the byte after that opcode". HALT under `HALT_BUG` fetches
without incrementing PC (R293). -/
def Obligations.IrHoldsTheByteBeforePc : Prop :=
  ∀ s t : State, s.Flat → step s = .next t → t.run = .running →
    (s.run = .running → s.ir = 0x76#8 → Config.haltBug = false ∨ s.ime = true) →
    t.ir = t.readByte (t.pc - 1)

/-- R460 and R461 through the table of Sys2Proof/Machine/Timing.lean, R219 "one entry per machine cycle", and the
bound of R465. -/
def Obligations.AStepSpendsTheCyclesOfTheTable : Prop :=
  ∀ s t : State, s.NoReset → s.run = .running → s.ir ≠ 0x76#8 → step s = .next t →
    s.stepCycles ≤ 6 ∧ ∃ spent : List BusCycle, t.trace = spent ++ s.trace ∧
      (spent.length = s.stepCycles ∨ spent.length = s.stepCycles + 5) ∧
      (s.ime = false → s.ir ≠ 0xD9#8 → spent.length = s.stepCycles)

/-! ### Interrupts -/

/-- R403 and R404 with the bits of R402; the example is R404's. -/
def Obligations.HighestIsTheLowestPendingBit : Prop :=
  ∀ s : State,
    let bit (n : Interrupt) : Nat :=
      match n with | .vblank => 0 | .lcdStat => 1 | .timer => 2 | .serial => 3 | .joypad => 4
    (∀ i, s.pending.getLsbD i =
      ((s.readByte 0xFFFF#16).getLsbD i && (s.readByte 0xFF0F#16).getLsbD i && decide (i < 5))) ∧
    (∀ n, s.highest = some n ↔ s.pending.getLsbD (bit n) = true ∧ ∀ j, j < bit n → s.pending.getLsbD j = false) ∧
    (s.highest = none ↔ s.pending = 0#8) ∧
    (∀ n, n ∈ s.activeInterrupts ↔ s.pending.getLsbD (bit n) = true) ∧
    (s.readByte 0xFFFF#16 = 0xFF#8 → s.readByte 0xFF0F#16 = 0x14#8 → s.activeInterrupts = [.timer, .joypad])

/-- R405, R215. -/
def Obligations.InterruptCheckDispatchesOrCommitsEi : Prop :=
  ∀ s : State,
    (s.ime = true → s.pending ≠ 0#8 → ∃ n, s.highest = some n ∧ s.interruptCheck = s.dispatch n) ∧
    (s.ime = false ∨ s.pending = 0#8 → s.interruptCheck =
      { s with ime := s.ime || s.eiPending, eiPending := false })

/-- R406 and R407: what is saved, what changes, where control goes. A byte that the environment writes in one of the
five cycles is its own affair; so is the opcode, unless the environment spares it in the four cycles before it is
fetched. -/
def Obligations.DispatchSavesPcAndEntersTheHandler : Prop :=
  ∀ (s : State) (n : Interrupt), s.NoReset →
    let ret : Word := s.pc - 1
    let vector : Word := match n with
      | .vblank => 0x0040#16 | .lcdStat => 0x0048#16 | .timer => 0x0050#16 | .serial => 0x0058#16 | .joypad => 0x0060#16
    let mask : Byte := match n with
      | .vblank => 0xFE#8 | .lcdStat => 0xFD#8 | .timer => 0xFB#8 | .serial => 0xF7#8 | .joypad => 0xEF#8
    let t : State := s.dispatch n
    let spent : List BusCycle := [.idle, .idle, .write (s.sp - 1) (hiByte ret), .write (s.sp - 2) (loByte ret),
      .read vector t.ir]
    t.regs = { s.regs with sp := s.sp - 2, ime := false, eiPending := false, pc := vector + 1, ir := t.ir } ∧
    (s.EnvSpares 4 vector → t.ir = storedBy vector spent (s.readByte vector)) ∧
    t.trace = spent.reverse ++ s.trace ∧ t.env = s.env.drop 5 ∧ t.resetLine = false ∧
    ∀ addr : Word, s.EnvSpares 5 addr → t.readByte addr =
      if addr = 0xFF0F#16 then storedBy addr spent (s.readByte addr) &&& mask
      else storedBy addr spent (s.readByte addr)

/-- R222, R411: "whatever IME holds". The middle clause is the wake-up with IME = 0, spelled out. -/
def Obligations.HaltedStepIdlesOrWakes : Prop :=
  ∀ s : State, s.NoReset → s.run = .halted →
    (s.pending = 0#8 → ∃ t : State, step s = .next t ∧ t.regs = s.regs ∧ Emits s t [.idle]) ∧
    (s.pending ≠ 0#8 → step s = .next (State.fetchNext { s with run := .running })) ∧
    (s.pending ≠ 0#8 → s.ime = false → ∃ t : State, step s = .next t ∧
      t.regs = { s.regs with run := .running, ir := s.readByte s.pc, pc := s.pc + 1, ime := s.eiPending,
                             eiPending := false } ∧
      Emits s t [.read s.pc (s.readByte s.pc)])

/-- R293, for both values of the open parameter `HALT_BUG` (log 5). -/
def Obligations.HaltHaltsOrFallsThrough : Prop :=
  ∀ s : State, s.NoReset →
    (s.pending = 0#8 → Completes .halt s { s.regs with run := .halted } []) ∧
    (s.pending ≠ 0#8 → s.ime = true → exec .halt s = .next s.fetchNext) ∧
    (s.pending ≠ 0#8 → s.ime = false → Completes .halt s
      { s.regs with ir := s.readByte s.pc, pc := if Config.haltBug then s.pc else s.pc + 1, ime := s.eiPending,
                    eiPending := false }
      [.read s.pc (s.readByte s.pc)])

/-- R32, R339, R454: "A program must not expect an interrupt between EI and the next instruction; `EI; DI` lets
nothing in". -/
def Obligations.EiLetsOneInstructionRun : Prop :=
  ∀ s : State, s.NoReset → s.run = .running → s.ir = 0xFB#8 → s.ime = false → ∃ t : State,
    step s = .next t ∧
    t.regs = { s.regs with ir := s.readByte s.pc, pc := s.pc + 1, ime := true, eiPending := false } ∧
    Emits s t [.read s.pc (s.readByte s.pc)] ∧
    (s.readByte s.pc = 0xF3#8 → ∃ u : State, step t = .next u ∧
      u.regs = { t.regs with ir := t.readByte t.pc, pc := t.pc + 1, ime := false } ∧
      Emits t u [.read t.pc (t.readByte t.pc)])

/-- R409 with R406 and R328: what the dispatch saves and RETI restores, and that nothing else changes on the way. -/
def Obligations.RetiResumesTheInterruptedProgram : Prop :=
  ∀ (s : State) (n : Interrupt), s.Flat → s.run = .running → s.ime = true → s.eiPending = false →
    s.highest = some n → s.readByte (serviceAddress n) = 0xD9#8 →
    (∀ a ∈ [s.sp - 1, s.sp - 2], a ≠ 0xFFFF#16 ∧ a ≠ 0xFF0F#16 ∧ a ≠ serviceAddress n) →
    (∀ m, m ≠ n → s.pending &&& lineBit m = 0#8) →
    ∃ t : State, step s.interruptCheck = .next t ∧
      t.regs = { s.regs with ir := t.readByte (s.pc - 1) } ∧
      ∀ a : Word, a ≠ s.sp - 1 → a ≠ s.sp - 2 →
        t.readByte a = if a = 0xFF0F#16 then s.readByte a &&& ~~~(lineBit n) else s.readByte a

/-- R463 and R321: "the new value is seen by the interrupt check that ends this same instruction". -/
def Obligations.StoreToIfOrIeIsSeenAtItsOwnBoundary : Prop :=
  ∀ (s : State) (n : Interrupt) (port other : Word), s.Flat → s.run = .running → s.ime = true → s.ir = 0xE0#8 →
    ((port, other) = (0xFF0F#16, 0xFFFF#16) ∨ (port, other) = (0xFFFF#16, 0xFF0F#16)) →
    s.readByte s.pc = loByte port →
    s.a &&& s.readByte other &&& lineBit n ≠ 0#8 →
    (∀ m, (lineBit m).toNat < (lineBit n).toNat → s.a &&& s.readByte other &&& lineBit m = 0#8) →
    ∃ t : State, step s = .next t ∧ t.pc = serviceAddress n + 1 ∧ t.ime = false ∧ t.sp = s.sp - 2

/-! ### Memory and the environment -/

/-- R72, whole but for the dispatch: "a store by instruction `n` to the address of the opcode of `n+1` is seen by that fetch,
and a store to any later byte is seen too", the last being R458's "changes everything from the byte after that"; and the one
window: a change of the opcode byte of an instruction that is already in IR is not seen. That the first clause holds although
R458 says "a store cannot change the opcode that follows it" is log 14 (DEDUCED). -/
def Obligations.AStoreToTheNextOpcodeIsFetched : Prop :=
  (∀ s : State, s.NoReset → s.run = .running → s.ime = false → s.ir = 0x77#8 → s.hl = s.pc → s.EnvSpares 1 s.pc →
    ∃ t : State, step s = .next t ∧ t.ir = s.a ∧ t.pc = s.pc + 1) ∧
  (∀ s : State, s.NoReset → s.run = .running → s.ime = false → s.ir = 0x77#8 → s.hl ≠ s.pc → s.EnvSpares 1 s.pc →
    s.EnvSpares 2 s.hl →
    ∃ t : State, step s = .next t ∧ t.ir = s.readByte s.pc ∧ t.pc = s.pc + 1 ∧ t.readByte s.hl = s.a) ∧
  (∀ (s : State) (v : Byte), s.EnvSpares 1 (s.pc + 1) →
    (s.putByte (s.pc - 1) v).fetchInstr.1 = s.fetchInstr.1)

/-- R71: "the environment's changes made during tick `k` are visible to CORE's transaction of tick `k+1`". That a
request is an or into IF is R35 (log 1). -/
def Obligations.TheEnvironmentActsAfterTheTransaction : Prop :=
  ∀ (s : State) (addr : Word) (v w : Byte) (n : Interrupt) (rest : List EnvCycle), s.resetLine = false →
    (s.env = [.write addr v] :: rest →
      (s.memRead addr).1 = s.readByte addr ∧ ((s.memRead addr).2.memRead addr).1 = v ∧
      (s.memWrite addr w).readByte addr = v) ∧
    (s.env = [.request n] :: rest → ∀ i, (s.idle.readByte 0xFF0F#16).getLsbD i =
      ((s.readByte 0xFF0F#16).getLsbD i || (lineBit n).getLsbD i))

/-- The canonical form of memory is the model's (log 2); the space has the 65,536 addresses of R36. -/
def Obligations.EqualBytesMakeEqualMemories : Prop :=
  ∀ m m' : Memory, m.wf = true → m'.wf = true → (∀ addr : Word, m.read addr.toNat = m'.read addr.toNat) → m = m'

/-! ### Loads -/

/-- R290 to R292, R261, R262. Index 6 of both tables at once is no row: 0x76 is HALT (R96). -/
def Obligations.ByteLoadsCopyTheirOperand : Prop :=
  (∀ (x r : R8) (s : State), ¬(x = .atHl ∧ r = .atHl) → s.NoReset →
    Completes (Instr.ld8 x r) s (s.regs.withR8 x (s.operand r)) (s.operandRead r ++ s.operandWrite x (s.operand r))) ∧
  (∀ (x : R8) (v : Byte) (s : State), s.NoReset →
    Completes (Instr.ld8Imm x v) s (s.regs.withR8 x v) (s.operandWrite x v))

/-- R247 to R254, R184. -/
def Obligations.PointerLoadsMoveAAndStepHl : Prop :=
  ∀ (m : Ind) (s : State), s.NoReset →
    let addr : Word := match m with | .bc => s.bc | .de => s.de | .hlInc => s.hl | .hlDec => s.hl
    let hl : Word := match m with | .bc => s.hl | .de => s.hl | .hlInc => s.hl + 1 | .hlDec => s.hl - 1
    Completes (Instr.storeInd m) s { s.regs with h := hiByte hl, l := loByte hl } [.write addr s.a] ∧
    Completes (Instr.loadInd m) s { s.regs with a := s.readByte addr, h := hiByte hl, l := loByte hl }
      [.read addr (s.readByte addr)]

/-- R321, R323, R332 to R335; "0xFF00 | C" is R185, R186. -/
def Obligations.AddressLoadsMoveA : Prop :=
  ∀ (s : State) (a8 : Byte) (a16 : Word), s.NoReset →
    let page (v : Byte) : Word := 0xFF00#16 ||| v.setWidth 16
    let load (addr : Word) (i : Instr) : Prop :=
      Completes i s { s.regs with a := s.readByte addr } [.read addr (s.readByte addr)]
    let store (addr : Word) (i : Instr) : Prop := Completes i s s.regs [.write addr s.a]
    store (page a8) (.ldhAtA8A a8) ∧ store (page s.c) .ldAtCA ∧ store a16 (.ldAtA16A a16) ∧
    load (page a8) (.ldhAAtA8 a8) ∧ load (page s.c) .ldAAtC ∧ load a16 (.ldAAtA16 a16)

/-- R245, R241, R330, R324. -/
def Obligations.WordLoads : Prop :=
  ∀ s : State, s.NoReset →
    (∀ (p : Rp) (v : Word), Completes (Instr.ld16Imm p v) s (s.regs.withRp p (hiByte v) (loByte v)) []) ∧
    (∀ a : Word, Completes (.ldAtA16Sp a) s s.regs [.write a (loByte s.sp), .write (a + 1) (hiByte s.sp)]) ∧
    Completes .ldSpHl s { s.regs with sp := s.hl } [.idle] ∧
    (∀ e : Byte,
      let v : Word := s.sp + e.signExtend 16
      Completes (.ldHlSpE8 e) s
        { s.regs with h := hiByte v, l := loByte v,
                      f := flagByte false false (decide (15 < s.sp.toNat % 16 + e.toNat % 16))
                        (decide (255 < s.sp.toNat % 256 + e.toNat)) }
        [.idle])

/-! ### Arithmetic and logic -/

/-- R300, R301, R343, R344. -/
def Obligations.AddAndAdcOnTheAccumulator : Prop :=
  ∀ s : State, s.NoReset →
    let out (v : Byte) (ci : Bool) : Regs :=
      let n : Nat := s.a.toNat + v.toNat + ci.toNat
      { s.regs with a := BitVec.ofNat 8 n,
                    f := flagByte (decide (n % 256 = 0)) false
                      (decide (15 < s.a.toNat % 16 + v.toNat % 16 + ci.toNat)) (decide (255 < n)) }
    (∀ r : R8, Completes (Instr.alu8 .add r) s (out (s.operand r) false) (s.operandRead r) ∧
      Completes (Instr.alu8 .adc r) s (out (s.operand r) s.flagC) (s.operandRead r)) ∧
    (∀ v : Byte, Completes (Instr.alu8Imm .add v) s (out v false) [] ∧
      Completes (Instr.alu8Imm .adc v) s (out v s.flagC) [])

/-- R302, R303, R307, R345, R346, R350. -/
def Obligations.SubSbcAndCpOnTheAccumulator : Prop :=
  ∀ s : State, s.NoReset →
    let diff (v : Byte) (bi : Bool) : Byte := BitVec.ofNat 8 (s.a.toNat + 256 - (v.toNat + bi.toNat))
    let flags (v : Byte) (bi : Bool) : Byte :=
      flagByte (decide (diff v bi = 0#8)) true (decide (s.a.toNat % 16 < v.toNat % 16 + bi.toNat))
        (decide (s.a.toNat < v.toNat + bi.toNat))
    let out (v : Byte) (bi : Bool) : Regs := { s.regs with a := diff v bi, f := flags v bi }
    let compare (v : Byte) : Regs := { s.regs with f := flags v false }
    (∀ r : R8, Completes (Instr.alu8 .sub r) s (out (s.operand r) false) (s.operandRead r) ∧
      Completes (Instr.alu8 .sbc r) s (out (s.operand r) s.flagC) (s.operandRead r) ∧
      Completes (Instr.alu8 .cp r) s (compare (s.operand r)) (s.operandRead r)) ∧
    (∀ v : Byte, Completes (Instr.alu8Imm .sub v) s (out v false) [] ∧
      Completes (Instr.alu8Imm .sbc v) s (out v s.flagC) [] ∧
      Completes (Instr.alu8Imm .cp v) s (compare v) [])

/-- R304 to R306, R347 to R349. -/
def Obligations.LogicOnTheAccumulator : Prop :=
  ∀ s : State, s.NoReset →
    let out (w : Byte) (h : Bool) : Regs := { s.regs with a := w, f := flagByte (decide (w = 0#8)) false h false }
    (∀ r : R8, Completes (Instr.alu8 .and r) s (out (s.a &&& s.operand r) true) (s.operandRead r) ∧
      Completes (Instr.alu8 .xor r) s (out (s.a ^^^ s.operand r) false) (s.operandRead r) ∧
      Completes (Instr.alu8 .or r) s (out (s.a ||| s.operand r) false) (s.operandRead r)) ∧
    (∀ v : Byte, Completes (Instr.alu8Imm .and v) s (out (s.a &&& v) true) [] ∧
      Completes (Instr.alu8Imm .xor v) s (out (s.a ^^^ v) false) [] ∧
      Completes (Instr.alu8Imm .or v) s (out (s.a ||| v) false) [])

/-- R257 to R260. -/
def Obligations.IncAndDecOfAByte : Prop :=
  ∀ (r : R8) (s : State), s.NoReset →
    let v : Byte := s.operand r
    Completes (Instr.inc8 r) s
      { s.regs.withR8 r (v + 1) with
        f := flagByte (decide (v = 0xFF#8)) false (decide (v.toNat % 16 = 15)) s.flagC }
      (s.operandRead r ++ s.operandWrite r (v + 1)) ∧
    Completes (Instr.dec8 r) s
      { s.regs.withR8 r (v - 1) with
        f := flagByte (decide (v = 0x01#8)) true (decide (v.toNat % 16 = 0)) s.flagC }
      (s.operandRead r ++ s.operandWrite r (v - 1))

/-- R246, R255, R256, R322. -/
def Obligations.SixteenBitArithmetic : Prop :=
  ∀ s : State, s.NoReset →
    (∀ p : Rp,
      let v : Word := s.regs.rp p
      let sum : Word := s.hl + v
      Completes (Instr.addHl p) s
        { s.regs with h := hiByte sum, l := loByte sum,
                      f := flagByte s.flagZ false (decide (0x0FFF < s.hl.toNat % 4096 + v.toNat % 4096))
                        (decide (0xFFFF < s.hl.toNat + v.toNat)) }
        [.idle] ∧
      Completes (Instr.inc16 p) s (s.regs.withRp p (hiByte (v + 1)) (loByte (v + 1))) [.idle] ∧
      Completes (Instr.dec16 p) s (s.regs.withRp p (hiByte (v - 1)) (loByte (v - 1))) [.idle]) ∧
    (∀ e : Byte, Completes (.addSpE8 e) s
      { s.regs with sp := s.sp + e.signExtend 16,
                    f := flagByte false false (decide (15 < s.sp.toNat % 16 + e.toNat % 16))
                      (decide (255 < s.sp.toNat % 256 + e.toNat)) }
      [.idle, .idle])

/-- R263 to R270. -/
def Obligations.AccumulatorAndFlagInstructions : Prop :=
  ∀ s : State,
    let a : Byte := s.a
    let cin : Byte := if s.flagC then 1#8 else 0#8
    let rotated (w : Byte) (c : Bool) : Regs := { s.regs with a := w, f := flagByte false false false c }
    let adjusted : Byte := (Alu.daa a s.flagN s.flagH s.flagC).1
    Completes .rlca s (rotated (a.rotateLeft 1) (a.getLsbD 7)) [] ∧
    Completes .rrca s (rotated (a.rotateRight 1) (a.getLsbD 0)) [] ∧
    Completes .rla s (rotated ((a <<< 1) ||| cin) (a.getLsbD 7)) [] ∧
    Completes .rra s (rotated ((a >>> 1) ||| (cin <<< 7)) (a.getLsbD 0)) [] ∧
    Completes .daa s
      { s.regs with a := adjusted,
                    f := flagByte (decide (adjusted = 0#8)) s.flagN false
                      (s.flagC || (!s.flagN && decide (0x99 < a.toNat))) } [] ∧
    Completes .cpl s { s.regs with a := ~~~a, f := flagByte s.flagZ true true s.flagC } [] ∧
    Completes .scf s { s.regs with f := flagByte s.flagZ false false true } [] ∧
    Completes .ccf s { s.regs with f := flagByte s.flagZ false false (!s.flagC) } []

/-- R381 to R388, R380. -/
def Obligations.PrefixedRotatesAndShifts : Prop :=
  ∀ (op : RotOp) (r : R8) (s : State), s.NoReset →
    let v : Byte := s.operand r
    let cin : Byte := if s.flagC then 1#8 else 0#8
    let w : Byte := match op with
      | .rlc => v.rotateLeft 1 | .rrc => v.rotateRight 1 | .rl => (v <<< 1) ||| cin
      | .rr => (v >>> 1) ||| (cin <<< 7) | .sla => v <<< 1 | .sra => v.sshiftRight 1
      | .swap => v.rotateLeft 4 | .srl => v >>> 1
    let c : Bool := match op with
      | .rlc => v.getLsbD 7 | .rrc => v.getLsbD 0 | .rl => v.getLsbD 7 | .rr => v.getLsbD 0
      | .sla => v.getLsbD 7 | .sra => v.getLsbD 0 | .swap => false | .srl => v.getLsbD 0
    Completes (Instr.rot op r) s
      { s.regs.withR8 r w with f := flagByte (decide (w = 0#8)) false false c }
      (s.operandRead r ++ s.operandWrite r w)

/-- R389 to R391, R380: RES and SET on (HL) write back "even when the bit already has the wanted value". -/
def Obligations.BitResAndSet : Prop :=
  ∀ (n : Nat) (r : R8) (s : State), n < 8 → s.NoReset →
    let v : Byte := s.operand r
    let bit : Byte := BitVec.ofNat 8 (2 ^ n)
    Completes (Instr.bit n r) s { s.regs with f := flagByte (!v.getLsbD n) false true s.flagC } (s.operandRead r) ∧
    Completes (Instr.res n r) s (s.regs.withR8 r (v &&& ~~~bit)) (s.operandRead r ++ s.operandWrite r (v &&& ~~~bit)) ∧
    Completes (Instr.set n r) s (s.regs.withR8 r (v ||| bit)) (s.operandRead r ++ s.operandWrite r (v ||| bit))

/-! ### Control flow and the stack -/

/-- R243, R244, R336, R331, R329, with the conditions of R221. -/
def Obligations.JumpsSetPc : Prop :=
  ∀ s : State, s.NoReset →
    let holds (q : Cond) : Bool := match q with
      | .nz => !s.f.getLsbD 7 | .z => s.f.getLsbD 7 | .nc => !s.f.getLsbD 4 | .c => s.f.getLsbD 4
    let goes (i : Instr) (target : Word) : Prop := Completes i s { s.regs with pc := target } [.idle]
    (∀ e : Byte, goes (.jrE8 e) (s.pc + e.signExtend 16)) ∧
    (∀ a : Word, goes (.jpA16 a) a) ∧
    Completes .jpHl s { s.regs with pc := s.hl } [] ∧
    (∀ q : Cond, holds q = true →
      (∀ e : Byte, goes (Instr.jrCc q e) (s.pc + e.signExtend 16)) ∧ (∀ a : Word, goes (Instr.jpCc q a) a)) ∧
    (∀ q : Cond, holds q = false →
      (∀ e : Byte, Completes (Instr.jrCc q e) s s.regs []) ∧ (∀ a : Word, Completes (Instr.jpCc q a) s s.regs []))

/-- R342, R340, R351, R220. -/
def Obligations.CallsAndRestartsPushPc : Prop :=
  ∀ s : State, s.NoReset →
    let calls (i : Instr) (target : Word) : Prop :=
      Completes i s { s.regs with pc := target, sp := s.sp - 2 }
        [.idle, .write (s.sp - 1) (hiByte s.pc), .write (s.sp - 2) (loByte s.pc)]
    (∀ a : Word, calls (.callA16 a) a) ∧
    (∀ n, n < 8 → calls (Instr.rst n) (BitVec.ofNat 16 (8 * n))) ∧
    (∀ (q : Cond) (a : Word),
      (s.cond q = true → calls (Instr.callCc q a) a) ∧ (s.cond q = false → Completes (Instr.callCc q a) s s.regs []))

/-- R327, R328, R320, R220. -/
def Obligations.ReturnsPopPc : Prop :=
  ∀ s : State, s.NoReset →
    let cycles (w : Word) : List BusCycle := [.read s.sp (loByte w), .read (s.sp + 1) (hiByte w), .idle]
    (∃ w : Word, loByte w = s.readByte s.sp ∧ (s.EnvSpares 1 (s.sp + 1) → hiByte w = s.readByte (s.sp + 1)) ∧
      Completes .ret s { s.regs with pc := w, sp := s.sp + 2 } (cycles w) ∧
      Completes .reti s { s.regs with pc := w, sp := s.sp + 2, ime := true, eiPending := false } (cycles w)) ∧
    (∀ q : Cond, s.cond q = false → Completes (Instr.retCc q) s s.regs [.idle]) ∧
    (∀ q : Cond, s.cond q = true → ∃ w : Word,
      (s.EnvSpares 1 s.sp → loByte w = s.readByte s.sp) ∧
      (s.EnvSpares 2 (s.sp + 1) → hiByte w = s.readByte (s.sp + 1)) ∧
      Completes (Instr.retCc q) s { s.regs with pc := w, sp := s.sp + 2 } (.idle :: cycles w))

/-- R341, R325, R326, R220. -/
def Obligations.PushAndPopMoveAPair : Prop :=
  ∀ (p : Rp2) (s : State), s.NoReset →
    Completes (Instr.push p) s { s.regs with sp := s.sp - 2 }
      [.idle, .write (s.sp - 1) (hiByte (s.regs.rp2 p)), .write (s.sp - 2) (loByte (s.regs.rp2 p))] ∧
    ∃ hi lo : Byte, lo = s.readByte s.sp ∧ (s.EnvSpares 1 (s.sp + 1) → hi = s.readByte (s.sp + 1)) ∧
      Completes (Instr.pop p) s { s.regs.withRp2 p hi lo with sp := s.sp + 2 }
        [.read s.sp lo, .read (s.sp + 1) hi]

/-- R220: what `Push16` stores `Pop16` answers, SP wrapping in both directions (R25). -/
def Obligations.RetUndoesCall : Prop :=
  ∀ (s : State) (a : Word), s.Flat → ∃ t u : State,
    exec (.callA16 a) s = .next t ∧ t.pc = a ∧ exec .ret t = .next u ∧ u.regs = s.regs

/-- R456: "`PUSH AF` then `POP AF` round-trips, but `POP AF` of arbitrary data loses the low four bits". -/
def Obligations.PopAfterPushMovesThePair : Prop :=
  ∀ (s : State) (p q : Rp2), s.Flat → ∃ t u : State,
    exec (Instr.push p) s = .next t ∧ exec (Instr.pop q) t = .next u ∧
    u.regs = s.regs.withRp2 q (hiByte (s.regs.rp2 p)) (loByte (s.regs.rp2 p))

/-- R240, R338, R339, R242, R352 with R401, and of PREFIX CB the part that R216 does before `op2` is executed (log 8).
-/
def Obligations.ControlInstructions : Prop :=
  ∀ s : State, s.NoReset →
    Completes .nop s s.regs [] ∧
    Completes .di s { s.regs with ime := false, eiPending := false } [] ∧
    Completes .ei s { s.regs with eiPending := true } [] ∧
    Completes .stop s { s.regs with run := .stopped } [] ∧
    (∀ op : Byte, Completes (.illegal op) s { s.regs with run := .locked } []) ∧
    Completes .prefixCb s { s.regs with ir := s.readByte s.pc, pc := s.pc + 1 } [.read s.pc (s.readByte s.pc)]

end Statements
end

