-- ==== Sys2Proof/Laws/Alu.lean ====
section
/-! SUPPORT. The carry vector of the ALU, bit by bit. -/

namespace Sys2Proof.Machine.Alu

theorem ofBits_getLsbD (f : Nat → Bool) {i : Nat} (h : i < 8) : (ofBits f).getLsbD i = f i := by
  have key : ∀ a b c d e g k m : Bool,
      let v : Byte := BitVec.ofBool a ++ BitVec.ofBool b ++ BitVec.ofBool c ++ BitVec.ofBool d ++ BitVec.ofBool e ++
        BitVec.ofBool g ++ BitVec.ofBool k ++ BitVec.ofBool m
      v.getLsbD 7 = a ∧ v.getLsbD 6 = b ∧ v.getLsbD 5 = c ∧ v.getLsbD 4 = d ∧ v.getLsbD 3 = e ∧ v.getLsbD 2 = g ∧
        v.getLsbD 1 = k ∧ v.getLsbD 0 = m := by decide
  obtain ⟨h7, h6, h5, h4, h3, h2, h1, h0⟩ := key (f 7) (f 6) (f 5) (f 4) (f 3) (f 2) (f 1) (f 0)
  interval_cases i
  · exact h0
  · exact h1
  · exact h2
  · exact h3
  · exact h4
  · exact h5
  · exact h6
  · exact h7

/-- Bit `i` of the carry vector is the carry out of bit `i`. -/
theorem carries_getLsbD (a b : Byte) (ci : Bool) {i : Nat} (h : i < 8) :
    (carries a b ci).getLsbD i = carryOut a b ci i := ofBits_getLsbD _ h

end Sys2Proof.Machine.Alu
end

