-- ==== Sys2Proof/Laws/Bits.lean ====
section
/-! SUPPORT. Halves of words. -/

namespace Sys2Proof.Machine

theorem pair_getLsbD (hi lo : Byte) (i : Nat) :
    (pair hi lo).getLsbD i = if i < 8 then lo.getLsbD i else hi.getLsbD (i - 8) := BitVec.getLsbD_append

@[simp] theorem loByte_pair (hi lo : Byte) : loByte (pair hi lo) = lo := by
  refine BitVec.eq_of_getLsbD_eq fun i h => ?_
  simp [loByte, pair_getLsbD, h]

@[simp] theorem hiByte_pair (hi lo : Byte) : hiByte (pair hi lo) = hi := by
  refine BitVec.eq_of_getLsbD_eq fun i h => ?_
  simp [hiByte, pair_getLsbD, h]

@[simp] theorem pair_halves (v : Word) : pair (hiByte v) (loByte v) = v := by
  refine BitVec.eq_of_getLsbD_eq fun i h => ?_
  rw [pair_getLsbD]
  by_cases h8 : i < 8
  · simp [loByte, h8]
  · simp [hiByte, h8, show i - 8 < 8 by omega, show 8 + (i - 8) = i by omega]

theorem pair_toNat (hi lo : Byte) : (pair hi lo).toNat = hi.toNat * 256 + lo.toNat := by
  refine (BitVec.toNat_append hi lo).trans ?_
  rw [← Nat.shiftLeft_add_eq_or_of_lt lo.isLt, Nat.shiftLeft_eq]

end Sys2Proof.Machine
end

