-- ==== Sys2Proof/Laws/Memory.lean ====
section
/-! SUPPORT. Memory: read after write, and the canonical form. -/

namespace Sys2Proof.Machine

theorem Memory.wfFrom_mono {m : Memory} {lo lo' : Nat} (h : m.wfFrom lo' = true) (hl : lo ≤ lo') :
    m.wfFrom lo = true := by
  cases m with
  | nil => rfl
  | cons x m =>
    obtain ⟨k, v⟩ := x
    simp only [Memory.wfFrom, Bool.and_eq_true, decide_eq_true_eq] at h ⊢
    exact ⟨⟨⟨by omega, h.1.1.2⟩, h.1.2⟩, h.2⟩

theorem Memory.wfFrom_cons {k lo : Nat} {v : Byte} {m : Memory} :
    Memory.wfFrom lo ((k, v) :: m) = true ↔
      lo ≤ k ∧ k < 65536 ∧ v ≠ Memory.unlisted ∧ Memory.wfFrom (k + 1) m = true := by
  simp [Memory.wfFrom, and_assoc]

/-- Below its first entry a memory in canonical form lists nothing. -/
theorem Memory.read_below {m : Memory} {lo n : Nat} (h : m.wfFrom lo = true) (hn : n < lo) :
    m.read n = Memory.unlisted := by
  induction m generalizing lo with
  | nil => rfl
  | cons x m ih =>
    obtain ⟨k, v⟩ := x
    obtain ⟨h1, -, -, h4⟩ := Memory.wfFrom_cons.mp h
    rw [Memory.read, if_neg (by omega)]
    exact ih h4 (by omega)

theorem Memory.insert_wfFrom {m : Memory} {lo n : Nat} {v : Byte} (h : m.wfFrom lo = true) (hl : lo ≤ n)
    (hn : n < 65536) (hv : v ≠ Memory.unlisted) : (m.insert n v).wfFrom lo = true := by
  induction m generalizing lo with
  | nil => exact Memory.wfFrom_cons.mpr ⟨hl, hn, hv, rfl⟩
  | cons x m ih =>
    obtain ⟨k, w⟩ := x
    obtain ⟨h1, h2, h3, h4⟩ := Memory.wfFrom_cons.mp h
    unfold Memory.insert
    split
    · exact Memory.wfFrom_cons.mpr ⟨hl, hn, hv, Memory.wfFrom_cons.mpr ⟨by omega, h2, h3, h4⟩⟩
    · split
      · subst n; exact Memory.wfFrom_cons.mpr ⟨hl, hn, hv, h4⟩
      · exact Memory.wfFrom_cons.mpr ⟨h1, h2, h3, ih h4 (by omega)⟩

theorem Memory.erase_wfFrom {m : Memory} {lo : Nat} (n : Nat) (h : m.wfFrom lo = true) :
    (m.erase n).wfFrom lo = true := by
  induction m generalizing lo with
  | nil => rfl
  | cons x m ih =>
    obtain ⟨k, w⟩ := x
    obtain ⟨h1, h2, h3, h4⟩ := Memory.wfFrom_cons.mp h
    unfold Memory.erase
    split
    · exact Memory.wfFrom_mono (ih h4) (by omega)
    · exact Memory.wfFrom_cons.mpr ⟨h1, h2, h3, ih h4⟩

/-- A write keeps the canonical form. -/
theorem Memory.write_wf {m : Memory} {n : Nat} (v : Byte) (h : m.wf = true) (hn : n < 65536) :
    (m.write n v).wf = true := by
  unfold Memory.write
  split
  · exact Memory.erase_wfFrom n h
  · exact Memory.insert_wfFrom h (Nat.zero_le n) hn ‹_›

theorem Memory.read_insert (m : Memory) (n : Nat) (v : Byte) (k : Nat) :
    (m.insert n v).read k = if k = n then v else m.read k := by
  induction m with
  | nil => simp [Memory.insert, Memory.read]
  | cons x m ih =>
    obtain ⟨j, w⟩ := x
    unfold Memory.insert
    split
    · rw [Memory.read]
    · split
      · subst n
        rw [Memory.read, Memory.read]
        split <;> rfl
      · rw [Memory.read, ih, Memory.read]
        split
        · rw [if_neg (by omega)]
        · rfl

theorem Memory.read_erase (m : Memory) (n k : Nat) :
    (m.erase n).read k = if k = n then Memory.unlisted else m.read k := by
  induction m with
  | nil => simp [Memory.erase, Memory.read]
  | cons x m ih =>
    obtain ⟨j, w⟩ := x
    unfold Memory.erase
    split
    · subst n
      rw [ih, Memory.read]
      split <;> rfl
    · rw [Memory.read, ih, Memory.read]
      split
      · rw [if_neg (by omega)]
      · rfl

/-- Read after write: the value written at its address, what was there anywhere else. -/
theorem Memory.read_write (m : Memory) (n : Nat) (v : Byte) (k : Nat) :
    (m.write n v).read k = if k = n then v else m.read k := by
  unfold Memory.write
  split
  · rw [Memory.read_erase, ‹v = _›]
  · exact Memory.read_insert m n v k

theorem State.putByte_wf {s : State} (a : Word) (v : Byte) (h : s.mem.wf = true) : (s.putByte a v).mem.wf = true :=
  Memory.write_wf v h a.isLt

theorem State.putByte_readByte (s : State) (a : Word) (v : Byte) (k : Word) :
    (s.putByte a v).readByte k = if k = a then v else s.readByte k := by
  refine (Memory.read_write s.mem a.toNat v k.toNat).trans ?_
  simp only [BitVec.toNat_inj]
  rfl

end Sys2Proof.Machine
end

