-- ==== Sys2Proof/Laws/State.lean ====
section
/-! SUPPORT. One lemma per field per update of the state. -/

namespace Sys2Proof.Machine

@[simp] theorem setA_a (s : State) (v : Byte) : (s.setA v).a = v := rfl
@[simp] theorem setA_f (s : State) (v : Byte) : (s.setA v).f = s.f := rfl
@[simp] theorem setA_b (s : State) (v : Byte) : (s.setA v).b = s.b := rfl
@[simp] theorem setA_c (s : State) (v : Byte) : (s.setA v).c = s.c := rfl
@[simp] theorem setA_d (s : State) (v : Byte) : (s.setA v).d = s.d := rfl
@[simp] theorem setA_e (s : State) (v : Byte) : (s.setA v).e = s.e := rfl
@[simp] theorem setA_h (s : State) (v : Byte) : (s.setA v).h = s.h := rfl
@[simp] theorem setA_l (s : State) (v : Byte) : (s.setA v).l = s.l := rfl
@[simp] theorem setA_sp (s : State) (v : Byte) : (s.setA v).sp = s.sp := rfl
@[simp] theorem setA_pc (s : State) (v : Byte) : (s.setA v).pc = s.pc := rfl
@[simp] theorem setA_ir (s : State) (v : Byte) : (s.setA v).ir = s.ir := rfl
@[simp] theorem setA_ime (s : State) (v : Byte) : (s.setA v).ime = s.ime := rfl
@[simp] theorem setA_eiPending (s : State) (v : Byte) : (s.setA v).eiPending = s.eiPending := rfl
@[simp] theorem setA_run (s : State) (v : Byte) : (s.setA v).run = s.run := rfl
@[simp] theorem setA_mem (s : State) (v : Byte) : (s.setA v).mem = s.mem := rfl
@[simp] theorem setA_env (s : State) (v : Byte) : (s.setA v).env = s.env := rfl
@[simp] theorem setA_resetLine (s : State) (v : Byte) : (s.setA v).resetLine = s.resetLine := rfl
@[simp] theorem setA_trace (s : State) (v : Byte) : (s.setA v).trace = s.trace := rfl
@[simp] theorem setF_a (s : State) (v : Byte) : (s.setF v).a = s.a := rfl
@[simp] theorem setF_f (s : State) (v : Byte) : (s.setF v).f = v &&& 0xF0#8 := rfl
@[simp] theorem setF_b (s : State) (v : Byte) : (s.setF v).b = s.b := rfl
@[simp] theorem setF_c (s : State) (v : Byte) : (s.setF v).c = s.c := rfl
@[simp] theorem setF_d (s : State) (v : Byte) : (s.setF v).d = s.d := rfl
@[simp] theorem setF_e (s : State) (v : Byte) : (s.setF v).e = s.e := rfl
@[simp] theorem setF_h (s : State) (v : Byte) : (s.setF v).h = s.h := rfl
@[simp] theorem setF_l (s : State) (v : Byte) : (s.setF v).l = s.l := rfl
@[simp] theorem setF_sp (s : State) (v : Byte) : (s.setF v).sp = s.sp := rfl
@[simp] theorem setF_pc (s : State) (v : Byte) : (s.setF v).pc = s.pc := rfl
@[simp] theorem setF_ir (s : State) (v : Byte) : (s.setF v).ir = s.ir := rfl
@[simp] theorem setF_ime (s : State) (v : Byte) : (s.setF v).ime = s.ime := rfl
@[simp] theorem setF_eiPending (s : State) (v : Byte) : (s.setF v).eiPending = s.eiPending := rfl
@[simp] theorem setF_run (s : State) (v : Byte) : (s.setF v).run = s.run := rfl
@[simp] theorem setF_mem (s : State) (v : Byte) : (s.setF v).mem = s.mem := rfl
@[simp] theorem setF_env (s : State) (v : Byte) : (s.setF v).env = s.env := rfl
@[simp] theorem setF_resetLine (s : State) (v : Byte) : (s.setF v).resetLine = s.resetLine := rfl
@[simp] theorem setF_trace (s : State) (v : Byte) : (s.setF v).trace = s.trace := rfl
@[simp] theorem setB_a (s : State) (v : Byte) : (s.setB v).a = s.a := rfl
@[simp] theorem setB_f (s : State) (v : Byte) : (s.setB v).f = s.f := rfl
@[simp] theorem setB_b (s : State) (v : Byte) : (s.setB v).b = v := rfl
@[simp] theorem setB_c (s : State) (v : Byte) : (s.setB v).c = s.c := rfl
@[simp] theorem setB_d (s : State) (v : Byte) : (s.setB v).d = s.d := rfl
@[simp] theorem setB_e (s : State) (v : Byte) : (s.setB v).e = s.e := rfl
@[simp] theorem setB_h (s : State) (v : Byte) : (s.setB v).h = s.h := rfl
@[simp] theorem setB_l (s : State) (v : Byte) : (s.setB v).l = s.l := rfl
@[simp] theorem setB_sp (s : State) (v : Byte) : (s.setB v).sp = s.sp := rfl
@[simp] theorem setB_pc (s : State) (v : Byte) : (s.setB v).pc = s.pc := rfl
@[simp] theorem setB_ir (s : State) (v : Byte) : (s.setB v).ir = s.ir := rfl
@[simp] theorem setB_ime (s : State) (v : Byte) : (s.setB v).ime = s.ime := rfl
@[simp] theorem setB_eiPending (s : State) (v : Byte) : (s.setB v).eiPending = s.eiPending := rfl
@[simp] theorem setB_run (s : State) (v : Byte) : (s.setB v).run = s.run := rfl
@[simp] theorem setB_mem (s : State) (v : Byte) : (s.setB v).mem = s.mem := rfl
@[simp] theorem setB_env (s : State) (v : Byte) : (s.setB v).env = s.env := rfl
@[simp] theorem setB_resetLine (s : State) (v : Byte) : (s.setB v).resetLine = s.resetLine := rfl
@[simp] theorem setB_trace (s : State) (v : Byte) : (s.setB v).trace = s.trace := rfl
@[simp] theorem setC_a (s : State) (v : Byte) : (s.setC v).a = s.a := rfl
@[simp] theorem setC_f (s : State) (v : Byte) : (s.setC v).f = s.f := rfl
@[simp] theorem setC_b (s : State) (v : Byte) : (s.setC v).b = s.b := rfl
@[simp] theorem setC_c (s : State) (v : Byte) : (s.setC v).c = v := rfl
@[simp] theorem setC_d (s : State) (v : Byte) : (s.setC v).d = s.d := rfl
@[simp] theorem setC_e (s : State) (v : Byte) : (s.setC v).e = s.e := rfl
@[simp] theorem setC_h (s : State) (v : Byte) : (s.setC v).h = s.h := rfl
@[simp] theorem setC_l (s : State) (v : Byte) : (s.setC v).l = s.l := rfl
@[simp] theorem setC_sp (s : State) (v : Byte) : (s.setC v).sp = s.sp := rfl
@[simp] theorem setC_pc (s : State) (v : Byte) : (s.setC v).pc = s.pc := rfl
@[simp] theorem setC_ir (s : State) (v : Byte) : (s.setC v).ir = s.ir := rfl
@[simp] theorem setC_ime (s : State) (v : Byte) : (s.setC v).ime = s.ime := rfl
@[simp] theorem setC_eiPending (s : State) (v : Byte) : (s.setC v).eiPending = s.eiPending := rfl
@[simp] theorem setC_run (s : State) (v : Byte) : (s.setC v).run = s.run := rfl
@[simp] theorem setC_mem (s : State) (v : Byte) : (s.setC v).mem = s.mem := rfl
@[simp] theorem setC_env (s : State) (v : Byte) : (s.setC v).env = s.env := rfl
@[simp] theorem setC_resetLine (s : State) (v : Byte) : (s.setC v).resetLine = s.resetLine := rfl
@[simp] theorem setC_trace (s : State) (v : Byte) : (s.setC v).trace = s.trace := rfl
@[simp] theorem setD_a (s : State) (v : Byte) : (s.setD v).a = s.a := rfl
@[simp] theorem setD_f (s : State) (v : Byte) : (s.setD v).f = s.f := rfl
@[simp] theorem setD_b (s : State) (v : Byte) : (s.setD v).b = s.b := rfl
@[simp] theorem setD_c (s : State) (v : Byte) : (s.setD v).c = s.c := rfl
@[simp] theorem setD_d (s : State) (v : Byte) : (s.setD v).d = v := rfl
@[simp] theorem setD_e (s : State) (v : Byte) : (s.setD v).e = s.e := rfl
@[simp] theorem setD_h (s : State) (v : Byte) : (s.setD v).h = s.h := rfl
@[simp] theorem setD_l (s : State) (v : Byte) : (s.setD v).l = s.l := rfl
@[simp] theorem setD_sp (s : State) (v : Byte) : (s.setD v).sp = s.sp := rfl
@[simp] theorem setD_pc (s : State) (v : Byte) : (s.setD v).pc = s.pc := rfl
@[simp] theorem setD_ir (s : State) (v : Byte) : (s.setD v).ir = s.ir := rfl
@[simp] theorem setD_ime (s : State) (v : Byte) : (s.setD v).ime = s.ime := rfl
@[simp] theorem setD_eiPending (s : State) (v : Byte) : (s.setD v).eiPending = s.eiPending := rfl
@[simp] theorem setD_run (s : State) (v : Byte) : (s.setD v).run = s.run := rfl
@[simp] theorem setD_mem (s : State) (v : Byte) : (s.setD v).mem = s.mem := rfl
@[simp] theorem setD_env (s : State) (v : Byte) : (s.setD v).env = s.env := rfl
@[simp] theorem setD_resetLine (s : State) (v : Byte) : (s.setD v).resetLine = s.resetLine := rfl
@[simp] theorem setD_trace (s : State) (v : Byte) : (s.setD v).trace = s.trace := rfl
@[simp] theorem setE_a (s : State) (v : Byte) : (s.setE v).a = s.a := rfl
@[simp] theorem setE_f (s : State) (v : Byte) : (s.setE v).f = s.f := rfl
@[simp] theorem setE_b (s : State) (v : Byte) : (s.setE v).b = s.b := rfl
@[simp] theorem setE_c (s : State) (v : Byte) : (s.setE v).c = s.c := rfl
@[simp] theorem setE_d (s : State) (v : Byte) : (s.setE v).d = s.d := rfl
@[simp] theorem setE_e (s : State) (v : Byte) : (s.setE v).e = v := rfl
@[simp] theorem setE_h (s : State) (v : Byte) : (s.setE v).h = s.h := rfl
@[simp] theorem setE_l (s : State) (v : Byte) : (s.setE v).l = s.l := rfl
@[simp] theorem setE_sp (s : State) (v : Byte) : (s.setE v).sp = s.sp := rfl
@[simp] theorem setE_pc (s : State) (v : Byte) : (s.setE v).pc = s.pc := rfl
@[simp] theorem setE_ir (s : State) (v : Byte) : (s.setE v).ir = s.ir := rfl
@[simp] theorem setE_ime (s : State) (v : Byte) : (s.setE v).ime = s.ime := rfl
@[simp] theorem setE_eiPending (s : State) (v : Byte) : (s.setE v).eiPending = s.eiPending := rfl
@[simp] theorem setE_run (s : State) (v : Byte) : (s.setE v).run = s.run := rfl
@[simp] theorem setE_mem (s : State) (v : Byte) : (s.setE v).mem = s.mem := rfl
@[simp] theorem setE_env (s : State) (v : Byte) : (s.setE v).env = s.env := rfl
@[simp] theorem setE_resetLine (s : State) (v : Byte) : (s.setE v).resetLine = s.resetLine := rfl
@[simp] theorem setE_trace (s : State) (v : Byte) : (s.setE v).trace = s.trace := rfl
@[simp] theorem setH_a (s : State) (v : Byte) : (s.setH v).a = s.a := rfl
@[simp] theorem setH_f (s : State) (v : Byte) : (s.setH v).f = s.f := rfl
@[simp] theorem setH_b (s : State) (v : Byte) : (s.setH v).b = s.b := rfl
@[simp] theorem setH_c (s : State) (v : Byte) : (s.setH v).c = s.c := rfl
@[simp] theorem setH_d (s : State) (v : Byte) : (s.setH v).d = s.d := rfl
@[simp] theorem setH_e (s : State) (v : Byte) : (s.setH v).e = s.e := rfl
@[simp] theorem setH_h (s : State) (v : Byte) : (s.setH v).h = v := rfl
@[simp] theorem setH_l (s : State) (v : Byte) : (s.setH v).l = s.l := rfl
@[simp] theorem setH_sp (s : State) (v : Byte) : (s.setH v).sp = s.sp := rfl
@[simp] theorem setH_pc (s : State) (v : Byte) : (s.setH v).pc = s.pc := rfl
@[simp] theorem setH_ir (s : State) (v : Byte) : (s.setH v).ir = s.ir := rfl
@[simp] theorem setH_ime (s : State) (v : Byte) : (s.setH v).ime = s.ime := rfl
@[simp] theorem setH_eiPending (s : State) (v : Byte) : (s.setH v).eiPending = s.eiPending := rfl
@[simp] theorem setH_run (s : State) (v : Byte) : (s.setH v).run = s.run := rfl
@[simp] theorem setH_mem (s : State) (v : Byte) : (s.setH v).mem = s.mem := rfl
@[simp] theorem setH_env (s : State) (v : Byte) : (s.setH v).env = s.env := rfl
@[simp] theorem setH_resetLine (s : State) (v : Byte) : (s.setH v).resetLine = s.resetLine := rfl
@[simp] theorem setH_trace (s : State) (v : Byte) : (s.setH v).trace = s.trace := rfl
@[simp] theorem setL_a (s : State) (v : Byte) : (s.setL v).a = s.a := rfl
@[simp] theorem setL_f (s : State) (v : Byte) : (s.setL v).f = s.f := rfl
@[simp] theorem setL_b (s : State) (v : Byte) : (s.setL v).b = s.b := rfl
@[simp] theorem setL_c (s : State) (v : Byte) : (s.setL v).c = s.c := rfl
@[simp] theorem setL_d (s : State) (v : Byte) : (s.setL v).d = s.d := rfl
@[simp] theorem setL_e (s : State) (v : Byte) : (s.setL v).e = s.e := rfl
@[simp] theorem setL_h (s : State) (v : Byte) : (s.setL v).h = s.h := rfl
@[simp] theorem setL_l (s : State) (v : Byte) : (s.setL v).l = v := rfl
@[simp] theorem setL_sp (s : State) (v : Byte) : (s.setL v).sp = s.sp := rfl
@[simp] theorem setL_pc (s : State) (v : Byte) : (s.setL v).pc = s.pc := rfl
@[simp] theorem setL_ir (s : State) (v : Byte) : (s.setL v).ir = s.ir := rfl
@[simp] theorem setL_ime (s : State) (v : Byte) : (s.setL v).ime = s.ime := rfl
@[simp] theorem setL_eiPending (s : State) (v : Byte) : (s.setL v).eiPending = s.eiPending := rfl
@[simp] theorem setL_run (s : State) (v : Byte) : (s.setL v).run = s.run := rfl
@[simp] theorem setL_mem (s : State) (v : Byte) : (s.setL v).mem = s.mem := rfl
@[simp] theorem setL_env (s : State) (v : Byte) : (s.setL v).env = s.env := rfl
@[simp] theorem setL_resetLine (s : State) (v : Byte) : (s.setL v).resetLine = s.resetLine := rfl
@[simp] theorem setL_trace (s : State) (v : Byte) : (s.setL v).trace = s.trace := rfl
@[simp] theorem setSp_a (s : State) (v : Word) : (s.setSp v).a = s.a := rfl
@[simp] theorem setSp_f (s : State) (v : Word) : (s.setSp v).f = s.f := rfl
@[simp] theorem setSp_b (s : State) (v : Word) : (s.setSp v).b = s.b := rfl
@[simp] theorem setSp_c (s : State) (v : Word) : (s.setSp v).c = s.c := rfl
@[simp] theorem setSp_d (s : State) (v : Word) : (s.setSp v).d = s.d := rfl
@[simp] theorem setSp_e (s : State) (v : Word) : (s.setSp v).e = s.e := rfl
@[simp] theorem setSp_h (s : State) (v : Word) : (s.setSp v).h = s.h := rfl
@[simp] theorem setSp_l (s : State) (v : Word) : (s.setSp v).l = s.l := rfl
@[simp] theorem setSp_sp (s : State) (v : Word) : (s.setSp v).sp = v := rfl
@[simp] theorem setSp_pc (s : State) (v : Word) : (s.setSp v).pc = s.pc := rfl
@[simp] theorem setSp_ir (s : State) (v : Word) : (s.setSp v).ir = s.ir := rfl
@[simp] theorem setSp_ime (s : State) (v : Word) : (s.setSp v).ime = s.ime := rfl
@[simp] theorem setSp_eiPending (s : State) (v : Word) : (s.setSp v).eiPending = s.eiPending := rfl
@[simp] theorem setSp_run (s : State) (v : Word) : (s.setSp v).run = s.run := rfl
@[simp] theorem setSp_mem (s : State) (v : Word) : (s.setSp v).mem = s.mem := rfl
@[simp] theorem setSp_env (s : State) (v : Word) : (s.setSp v).env = s.env := rfl
@[simp] theorem setSp_resetLine (s : State) (v : Word) : (s.setSp v).resetLine = s.resetLine := rfl
@[simp] theorem setSp_trace (s : State) (v : Word) : (s.setSp v).trace = s.trace := rfl
@[simp] theorem setPc_a (s : State) (v : Word) : (s.setPc v).a = s.a := rfl
@[simp] theorem setPc_f (s : State) (v : Word) : (s.setPc v).f = s.f := rfl
@[simp] theorem setPc_b (s : State) (v : Word) : (s.setPc v).b = s.b := rfl
@[simp] theorem setPc_c (s : State) (v : Word) : (s.setPc v).c = s.c := rfl
@[simp] theorem setPc_d (s : State) (v : Word) : (s.setPc v).d = s.d := rfl
@[simp] theorem setPc_e (s : State) (v : Word) : (s.setPc v).e = s.e := rfl
@[simp] theorem setPc_h (s : State) (v : Word) : (s.setPc v).h = s.h := rfl
@[simp] theorem setPc_l (s : State) (v : Word) : (s.setPc v).l = s.l := rfl
@[simp] theorem setPc_sp (s : State) (v : Word) : (s.setPc v).sp = s.sp := rfl
@[simp] theorem setPc_pc (s : State) (v : Word) : (s.setPc v).pc = v := rfl
@[simp] theorem setPc_ir (s : State) (v : Word) : (s.setPc v).ir = s.ir := rfl
@[simp] theorem setPc_ime (s : State) (v : Word) : (s.setPc v).ime = s.ime := rfl
@[simp] theorem setPc_eiPending (s : State) (v : Word) : (s.setPc v).eiPending = s.eiPending := rfl
@[simp] theorem setPc_run (s : State) (v : Word) : (s.setPc v).run = s.run := rfl
@[simp] theorem setPc_mem (s : State) (v : Word) : (s.setPc v).mem = s.mem := rfl
@[simp] theorem setPc_env (s : State) (v : Word) : (s.setPc v).env = s.env := rfl
@[simp] theorem setPc_resetLine (s : State) (v : Word) : (s.setPc v).resetLine = s.resetLine := rfl
@[simp] theorem setPc_trace (s : State) (v : Word) : (s.setPc v).trace = s.trace := rfl
@[simp] theorem setIr_a (s : State) (v : Byte) : (s.setIr v).a = s.a := rfl
@[simp] theorem setIr_f (s : State) (v : Byte) : (s.setIr v).f = s.f := rfl
@[simp] theorem setIr_b (s : State) (v : Byte) : (s.setIr v).b = s.b := rfl
@[simp] theorem setIr_c (s : State) (v : Byte) : (s.setIr v).c = s.c := rfl
@[simp] theorem setIr_d (s : State) (v : Byte) : (s.setIr v).d = s.d := rfl
@[simp] theorem setIr_e (s : State) (v : Byte) : (s.setIr v).e = s.e := rfl
@[simp] theorem setIr_h (s : State) (v : Byte) : (s.setIr v).h = s.h := rfl
@[simp] theorem setIr_l (s : State) (v : Byte) : (s.setIr v).l = s.l := rfl
@[simp] theorem setIr_sp (s : State) (v : Byte) : (s.setIr v).sp = s.sp := rfl
@[simp] theorem setIr_pc (s : State) (v : Byte) : (s.setIr v).pc = s.pc := rfl
@[simp] theorem setIr_ir (s : State) (v : Byte) : (s.setIr v).ir = v := rfl
@[simp] theorem setIr_ime (s : State) (v : Byte) : (s.setIr v).ime = s.ime := rfl
@[simp] theorem setIr_eiPending (s : State) (v : Byte) : (s.setIr v).eiPending = s.eiPending := rfl
@[simp] theorem setIr_run (s : State) (v : Byte) : (s.setIr v).run = s.run := rfl
@[simp] theorem setIr_mem (s : State) (v : Byte) : (s.setIr v).mem = s.mem := rfl
@[simp] theorem setIr_env (s : State) (v : Byte) : (s.setIr v).env = s.env := rfl
@[simp] theorem setIr_resetLine (s : State) (v : Byte) : (s.setIr v).resetLine = s.resetLine := rfl
@[simp] theorem setIr_trace (s : State) (v : Byte) : (s.setIr v).trace = s.trace := rfl
@[simp] theorem setIme_a (s : State) (v : Bool) : (s.setIme v).a = s.a := rfl
@[simp] theorem setIme_f (s : State) (v : Bool) : (s.setIme v).f = s.f := rfl
@[simp] theorem setIme_b (s : State) (v : Bool) : (s.setIme v).b = s.b := rfl
@[simp] theorem setIme_c (s : State) (v : Bool) : (s.setIme v).c = s.c := rfl
@[simp] theorem setIme_d (s : State) (v : Bool) : (s.setIme v).d = s.d := rfl
@[simp] theorem setIme_e (s : State) (v : Bool) : (s.setIme v).e = s.e := rfl
@[simp] theorem setIme_h (s : State) (v : Bool) : (s.setIme v).h = s.h := rfl
@[simp] theorem setIme_l (s : State) (v : Bool) : (s.setIme v).l = s.l := rfl
@[simp] theorem setIme_sp (s : State) (v : Bool) : (s.setIme v).sp = s.sp := rfl
@[simp] theorem setIme_pc (s : State) (v : Bool) : (s.setIme v).pc = s.pc := rfl
@[simp] theorem setIme_ir (s : State) (v : Bool) : (s.setIme v).ir = s.ir := rfl
@[simp] theorem setIme_ime (s : State) (v : Bool) : (s.setIme v).ime = v := rfl
@[simp] theorem setIme_eiPending (s : State) (v : Bool) : (s.setIme v).eiPending = s.eiPending := rfl
@[simp] theorem setIme_run (s : State) (v : Bool) : (s.setIme v).run = s.run := rfl
@[simp] theorem setIme_mem (s : State) (v : Bool) : (s.setIme v).mem = s.mem := rfl
@[simp] theorem setIme_env (s : State) (v : Bool) : (s.setIme v).env = s.env := rfl
@[simp] theorem setIme_resetLine (s : State) (v : Bool) : (s.setIme v).resetLine = s.resetLine := rfl
@[simp] theorem setIme_trace (s : State) (v : Bool) : (s.setIme v).trace = s.trace := rfl
@[simp] theorem setEiPending_a (s : State) (v : Bool) : (s.setEiPending v).a = s.a := rfl
@[simp] theorem setEiPending_f (s : State) (v : Bool) : (s.setEiPending v).f = s.f := rfl
@[simp] theorem setEiPending_b (s : State) (v : Bool) : (s.setEiPending v).b = s.b := rfl
@[simp] theorem setEiPending_c (s : State) (v : Bool) : (s.setEiPending v).c = s.c := rfl
@[simp] theorem setEiPending_d (s : State) (v : Bool) : (s.setEiPending v).d = s.d := rfl
@[simp] theorem setEiPending_e (s : State) (v : Bool) : (s.setEiPending v).e = s.e := rfl
@[simp] theorem setEiPending_h (s : State) (v : Bool) : (s.setEiPending v).h = s.h := rfl
@[simp] theorem setEiPending_l (s : State) (v : Bool) : (s.setEiPending v).l = s.l := rfl
@[simp] theorem setEiPending_sp (s : State) (v : Bool) : (s.setEiPending v).sp = s.sp := rfl
@[simp] theorem setEiPending_pc (s : State) (v : Bool) : (s.setEiPending v).pc = s.pc := rfl
@[simp] theorem setEiPending_ir (s : State) (v : Bool) : (s.setEiPending v).ir = s.ir := rfl
@[simp] theorem setEiPending_ime (s : State) (v : Bool) : (s.setEiPending v).ime = s.ime := rfl
@[simp] theorem setEiPending_eiPending (s : State) (v : Bool) : (s.setEiPending v).eiPending = v := rfl
@[simp] theorem setEiPending_run (s : State) (v : Bool) : (s.setEiPending v).run = s.run := rfl
@[simp] theorem setEiPending_mem (s : State) (v : Bool) : (s.setEiPending v).mem = s.mem := rfl
@[simp] theorem setEiPending_env (s : State) (v : Bool) : (s.setEiPending v).env = s.env := rfl
@[simp] theorem setEiPending_resetLine (s : State) (v : Bool) : (s.setEiPending v).resetLine = s.resetLine := rfl
@[simp] theorem setEiPending_trace (s : State) (v : Bool) : (s.setEiPending v).trace = s.trace := rfl
@[simp] theorem setRun_a (s : State) (v : RunState) : (s.setRun v).a = s.a := rfl
@[simp] theorem setRun_f (s : State) (v : RunState) : (s.setRun v).f = s.f := rfl
@[simp] theorem setRun_b (s : State) (v : RunState) : (s.setRun v).b = s.b := rfl
@[simp] theorem setRun_c (s : State) (v : RunState) : (s.setRun v).c = s.c := rfl
@[simp] theorem setRun_d (s : State) (v : RunState) : (s.setRun v).d = s.d := rfl
@[simp] theorem setRun_e (s : State) (v : RunState) : (s.setRun v).e = s.e := rfl
@[simp] theorem setRun_h (s : State) (v : RunState) : (s.setRun v).h = s.h := rfl
@[simp] theorem setRun_l (s : State) (v : RunState) : (s.setRun v).l = s.l := rfl
@[simp] theorem setRun_sp (s : State) (v : RunState) : (s.setRun v).sp = s.sp := rfl
@[simp] theorem setRun_pc (s : State) (v : RunState) : (s.setRun v).pc = s.pc := rfl
@[simp] theorem setRun_ir (s : State) (v : RunState) : (s.setRun v).ir = s.ir := rfl
@[simp] theorem setRun_ime (s : State) (v : RunState) : (s.setRun v).ime = s.ime := rfl
@[simp] theorem setRun_eiPending (s : State) (v : RunState) : (s.setRun v).eiPending = s.eiPending := rfl
@[simp] theorem setRun_run (s : State) (v : RunState) : (s.setRun v).run = v := rfl
@[simp] theorem setRun_mem (s : State) (v : RunState) : (s.setRun v).mem = s.mem := rfl
@[simp] theorem setRun_env (s : State) (v : RunState) : (s.setRun v).env = s.env := rfl
@[simp] theorem setRun_resetLine (s : State) (v : RunState) : (s.setRun v).resetLine = s.resetLine := rfl
@[simp] theorem setRun_trace (s : State) (v : RunState) : (s.setRun v).trace = s.trace := rfl
@[simp] theorem setMem_a (s : State) (v : Memory) : (s.setMem v).a = s.a := rfl
@[simp] theorem setMem_f (s : State) (v : Memory) : (s.setMem v).f = s.f := rfl
@[simp] theorem setMem_b (s : State) (v : Memory) : (s.setMem v).b = s.b := rfl
@[simp] theorem setMem_c (s : State) (v : Memory) : (s.setMem v).c = s.c := rfl
@[simp] theorem setMem_d (s : State) (v : Memory) : (s.setMem v).d = s.d := rfl
@[simp] theorem setMem_e (s : State) (v : Memory) : (s.setMem v).e = s.e := rfl
@[simp] theorem setMem_h (s : State) (v : Memory) : (s.setMem v).h = s.h := rfl
@[simp] theorem setMem_l (s : State) (v : Memory) : (s.setMem v).l = s.l := rfl
@[simp] theorem setMem_sp (s : State) (v : Memory) : (s.setMem v).sp = s.sp := rfl
@[simp] theorem setMem_pc (s : State) (v : Memory) : (s.setMem v).pc = s.pc := rfl
@[simp] theorem setMem_ir (s : State) (v : Memory) : (s.setMem v).ir = s.ir := rfl
@[simp] theorem setMem_ime (s : State) (v : Memory) : (s.setMem v).ime = s.ime := rfl
@[simp] theorem setMem_eiPending (s : State) (v : Memory) : (s.setMem v).eiPending = s.eiPending := rfl
@[simp] theorem setMem_run (s : State) (v : Memory) : (s.setMem v).run = s.run := rfl
@[simp] theorem setMem_mem (s : State) (v : Memory) : (s.setMem v).mem = v := rfl
@[simp] theorem setMem_env (s : State) (v : Memory) : (s.setMem v).env = s.env := rfl
@[simp] theorem setMem_resetLine (s : State) (v : Memory) : (s.setMem v).resetLine = s.resetLine := rfl
@[simp] theorem setMem_trace (s : State) (v : Memory) : (s.setMem v).trace = s.trace := rfl
@[simp] theorem setEnv_a (s : State) (v : List EnvCycle) : (s.setEnv v).a = s.a := rfl
@[simp] theorem setEnv_f (s : State) (v : List EnvCycle) : (s.setEnv v).f = s.f := rfl
@[simp] theorem setEnv_b (s : State) (v : List EnvCycle) : (s.setEnv v).b = s.b := rfl
@[simp] theorem setEnv_c (s : State) (v : List EnvCycle) : (s.setEnv v).c = s.c := rfl
@[simp] theorem setEnv_d (s : State) (v : List EnvCycle) : (s.setEnv v).d = s.d := rfl
@[simp] theorem setEnv_e (s : State) (v : List EnvCycle) : (s.setEnv v).e = s.e := rfl
@[simp] theorem setEnv_h (s : State) (v : List EnvCycle) : (s.setEnv v).h = s.h := rfl
@[simp] theorem setEnv_l (s : State) (v : List EnvCycle) : (s.setEnv v).l = s.l := rfl
@[simp] theorem setEnv_sp (s : State) (v : List EnvCycle) : (s.setEnv v).sp = s.sp := rfl
@[simp] theorem setEnv_pc (s : State) (v : List EnvCycle) : (s.setEnv v).pc = s.pc := rfl
@[simp] theorem setEnv_ir (s : State) (v : List EnvCycle) : (s.setEnv v).ir = s.ir := rfl
@[simp] theorem setEnv_ime (s : State) (v : List EnvCycle) : (s.setEnv v).ime = s.ime := rfl
@[simp] theorem setEnv_eiPending (s : State) (v : List EnvCycle) : (s.setEnv v).eiPending = s.eiPending := rfl
@[simp] theorem setEnv_run (s : State) (v : List EnvCycle) : (s.setEnv v).run = s.run := rfl
@[simp] theorem setEnv_mem (s : State) (v : List EnvCycle) : (s.setEnv v).mem = s.mem := rfl
@[simp] theorem setEnv_env (s : State) (v : List EnvCycle) : (s.setEnv v).env = v := rfl
@[simp] theorem setEnv_resetLine (s : State) (v : List EnvCycle) : (s.setEnv v).resetLine = s.resetLine := rfl
@[simp] theorem setEnv_trace (s : State) (v : List EnvCycle) : (s.setEnv v).trace = s.trace := rfl
@[simp] theorem setResetLine_a (s : State) (v : Bool) : (s.setResetLine v).a = s.a := rfl
@[simp] theorem setResetLine_f (s : State) (v : Bool) : (s.setResetLine v).f = s.f := rfl
@[simp] theorem setResetLine_b (s : State) (v : Bool) : (s.setResetLine v).b = s.b := rfl
@[simp] theorem setResetLine_c (s : State) (v : Bool) : (s.setResetLine v).c = s.c := rfl
@[simp] theorem setResetLine_d (s : State) (v : Bool) : (s.setResetLine v).d = s.d := rfl
@[simp] theorem setResetLine_e (s : State) (v : Bool) : (s.setResetLine v).e = s.e := rfl
@[simp] theorem setResetLine_h (s : State) (v : Bool) : (s.setResetLine v).h = s.h := rfl
@[simp] theorem setResetLine_l (s : State) (v : Bool) : (s.setResetLine v).l = s.l := rfl
@[simp] theorem setResetLine_sp (s : State) (v : Bool) : (s.setResetLine v).sp = s.sp := rfl
@[simp] theorem setResetLine_pc (s : State) (v : Bool) : (s.setResetLine v).pc = s.pc := rfl
@[simp] theorem setResetLine_ir (s : State) (v : Bool) : (s.setResetLine v).ir = s.ir := rfl
@[simp] theorem setResetLine_ime (s : State) (v : Bool) : (s.setResetLine v).ime = s.ime := rfl
@[simp] theorem setResetLine_eiPending (s : State) (v : Bool) : (s.setResetLine v).eiPending = s.eiPending := rfl
@[simp] theorem setResetLine_run (s : State) (v : Bool) : (s.setResetLine v).run = s.run := rfl
@[simp] theorem setResetLine_mem (s : State) (v : Bool) : (s.setResetLine v).mem = s.mem := rfl
@[simp] theorem setResetLine_env (s : State) (v : Bool) : (s.setResetLine v).env = s.env := rfl
@[simp] theorem setResetLine_resetLine (s : State) (v : Bool) : (s.setResetLine v).resetLine = v := rfl
@[simp] theorem setResetLine_trace (s : State) (v : Bool) : (s.setResetLine v).trace = s.trace := rfl
@[simp] theorem setTrace_a (s : State) (v : List BusCycle) : (s.setTrace v).a = s.a := rfl
@[simp] theorem setTrace_f (s : State) (v : List BusCycle) : (s.setTrace v).f = s.f := rfl
@[simp] theorem setTrace_b (s : State) (v : List BusCycle) : (s.setTrace v).b = s.b := rfl
@[simp] theorem setTrace_c (s : State) (v : List BusCycle) : (s.setTrace v).c = s.c := rfl
@[simp] theorem setTrace_d (s : State) (v : List BusCycle) : (s.setTrace v).d = s.d := rfl
@[simp] theorem setTrace_e (s : State) (v : List BusCycle) : (s.setTrace v).e = s.e := rfl
@[simp] theorem setTrace_h (s : State) (v : List BusCycle) : (s.setTrace v).h = s.h := rfl
@[simp] theorem setTrace_l (s : State) (v : List BusCycle) : (s.setTrace v).l = s.l := rfl
@[simp] theorem setTrace_sp (s : State) (v : List BusCycle) : (s.setTrace v).sp = s.sp := rfl
@[simp] theorem setTrace_pc (s : State) (v : List BusCycle) : (s.setTrace v).pc = s.pc := rfl
@[simp] theorem setTrace_ir (s : State) (v : List BusCycle) : (s.setTrace v).ir = s.ir := rfl
@[simp] theorem setTrace_ime (s : State) (v : List BusCycle) : (s.setTrace v).ime = s.ime := rfl
@[simp] theorem setTrace_eiPending (s : State) (v : List BusCycle) : (s.setTrace v).eiPending = s.eiPending := rfl
@[simp] theorem setTrace_run (s : State) (v : List BusCycle) : (s.setTrace v).run = s.run := rfl
@[simp] theorem setTrace_mem (s : State) (v : List BusCycle) : (s.setTrace v).mem = s.mem := rfl
@[simp] theorem setTrace_env (s : State) (v : List BusCycle) : (s.setTrace v).env = s.env := rfl
@[simp] theorem setTrace_resetLine (s : State) (v : List BusCycle) : (s.setTrace v).resetLine = s.resetLine := rfl
@[simp] theorem setTrace_trace (s : State) (v : List BusCycle) : (s.setTrace v).trace = v := rfl

@[simp] theorem setBC_a (s : State) (v : Word) : (s.setBC v).a = s.a := rfl
@[simp] theorem setBC_f (s : State) (v : Word) : (s.setBC v).f = s.f := rfl
@[simp] theorem setBC_b (s : State) (v : Word) : (s.setBC v).b = hiByte v := rfl
@[simp] theorem setBC_c (s : State) (v : Word) : (s.setBC v).c = loByte v := rfl
@[simp] theorem setBC_d (s : State) (v : Word) : (s.setBC v).d = s.d := rfl
@[simp] theorem setBC_e (s : State) (v : Word) : (s.setBC v).e = s.e := rfl
@[simp] theorem setBC_h (s : State) (v : Word) : (s.setBC v).h = s.h := rfl
@[simp] theorem setBC_l (s : State) (v : Word) : (s.setBC v).l = s.l := rfl
@[simp] theorem setBC_sp (s : State) (v : Word) : (s.setBC v).sp = s.sp := rfl
@[simp] theorem setBC_pc (s : State) (v : Word) : (s.setBC v).pc = s.pc := rfl
@[simp] theorem setBC_ir (s : State) (v : Word) : (s.setBC v).ir = s.ir := rfl
@[simp] theorem setBC_ime (s : State) (v : Word) : (s.setBC v).ime = s.ime := rfl
@[simp] theorem setBC_eiPending (s : State) (v : Word) : (s.setBC v).eiPending = s.eiPending := rfl
@[simp] theorem setBC_run (s : State) (v : Word) : (s.setBC v).run = s.run := rfl
@[simp] theorem setBC_mem (s : State) (v : Word) : (s.setBC v).mem = s.mem := rfl
@[simp] theorem setBC_env (s : State) (v : Word) : (s.setBC v).env = s.env := rfl
@[simp] theorem setBC_resetLine (s : State) (v : Word) : (s.setBC v).resetLine = s.resetLine := rfl
@[simp] theorem setBC_trace (s : State) (v : Word) : (s.setBC v).trace = s.trace := rfl
@[simp] theorem setDE_a (s : State) (v : Word) : (s.setDE v).a = s.a := rfl
@[simp] theorem setDE_f (s : State) (v : Word) : (s.setDE v).f = s.f := rfl
@[simp] theorem setDE_b (s : State) (v : Word) : (s.setDE v).b = s.b := rfl
@[simp] theorem setDE_c (s : State) (v : Word) : (s.setDE v).c = s.c := rfl
@[simp] theorem setDE_d (s : State) (v : Word) : (s.setDE v).d = hiByte v := rfl
@[simp] theorem setDE_e (s : State) (v : Word) : (s.setDE v).e = loByte v := rfl
@[simp] theorem setDE_h (s : State) (v : Word) : (s.setDE v).h = s.h := rfl
@[simp] theorem setDE_l (s : State) (v : Word) : (s.setDE v).l = s.l := rfl
@[simp] theorem setDE_sp (s : State) (v : Word) : (s.setDE v).sp = s.sp := rfl
@[simp] theorem setDE_pc (s : State) (v : Word) : (s.setDE v).pc = s.pc := rfl
@[simp] theorem setDE_ir (s : State) (v : Word) : (s.setDE v).ir = s.ir := rfl
@[simp] theorem setDE_ime (s : State) (v : Word) : (s.setDE v).ime = s.ime := rfl
@[simp] theorem setDE_eiPending (s : State) (v : Word) : (s.setDE v).eiPending = s.eiPending := rfl
@[simp] theorem setDE_run (s : State) (v : Word) : (s.setDE v).run = s.run := rfl
@[simp] theorem setDE_mem (s : State) (v : Word) : (s.setDE v).mem = s.mem := rfl
@[simp] theorem setDE_env (s : State) (v : Word) : (s.setDE v).env = s.env := rfl
@[simp] theorem setDE_resetLine (s : State) (v : Word) : (s.setDE v).resetLine = s.resetLine := rfl
@[simp] theorem setDE_trace (s : State) (v : Word) : (s.setDE v).trace = s.trace := rfl
@[simp] theorem setHL_a (s : State) (v : Word) : (s.setHL v).a = s.a := rfl
@[simp] theorem setHL_f (s : State) (v : Word) : (s.setHL v).f = s.f := rfl
@[simp] theorem setHL_b (s : State) (v : Word) : (s.setHL v).b = s.b := rfl
@[simp] theorem setHL_c (s : State) (v : Word) : (s.setHL v).c = s.c := rfl
@[simp] theorem setHL_d (s : State) (v : Word) : (s.setHL v).d = s.d := rfl
@[simp] theorem setHL_e (s : State) (v : Word) : (s.setHL v).e = s.e := rfl
@[simp] theorem setHL_h (s : State) (v : Word) : (s.setHL v).h = hiByte v := rfl
@[simp] theorem setHL_l (s : State) (v : Word) : (s.setHL v).l = loByte v := rfl
@[simp] theorem setHL_sp (s : State) (v : Word) : (s.setHL v).sp = s.sp := rfl
@[simp] theorem setHL_pc (s : State) (v : Word) : (s.setHL v).pc = s.pc := rfl
@[simp] theorem setHL_ir (s : State) (v : Word) : (s.setHL v).ir = s.ir := rfl
@[simp] theorem setHL_ime (s : State) (v : Word) : (s.setHL v).ime = s.ime := rfl
@[simp] theorem setHL_eiPending (s : State) (v : Word) : (s.setHL v).eiPending = s.eiPending := rfl
@[simp] theorem setHL_run (s : State) (v : Word) : (s.setHL v).run = s.run := rfl
@[simp] theorem setHL_mem (s : State) (v : Word) : (s.setHL v).mem = s.mem := rfl
@[simp] theorem setHL_env (s : State) (v : Word) : (s.setHL v).env = s.env := rfl
@[simp] theorem setHL_resetLine (s : State) (v : Word) : (s.setHL v).resetLine = s.resetLine := rfl
@[simp] theorem setHL_trace (s : State) (v : Word) : (s.setHL v).trace = s.trace := rfl
@[simp] theorem setAF_a (s : State) (v : Word) : (s.setAF v).a = hiByte v := rfl
@[simp] theorem setAF_f (s : State) (v : Word) : (s.setAF v).f = loByte v &&& 0xF0#8 := rfl
@[simp] theorem setAF_b (s : State) (v : Word) : (s.setAF v).b = s.b := rfl
@[simp] theorem setAF_c (s : State) (v : Word) : (s.setAF v).c = s.c := rfl
@[simp] theorem setAF_d (s : State) (v : Word) : (s.setAF v).d = s.d := rfl
@[simp] theorem setAF_e (s : State) (v : Word) : (s.setAF v).e = s.e := rfl
@[simp] theorem setAF_h (s : State) (v : Word) : (s.setAF v).h = s.h := rfl
@[simp] theorem setAF_l (s : State) (v : Word) : (s.setAF v).l = s.l := rfl
@[simp] theorem setAF_sp (s : State) (v : Word) : (s.setAF v).sp = s.sp := rfl
@[simp] theorem setAF_pc (s : State) (v : Word) : (s.setAF v).pc = s.pc := rfl
@[simp] theorem setAF_ir (s : State) (v : Word) : (s.setAF v).ir = s.ir := rfl
@[simp] theorem setAF_ime (s : State) (v : Word) : (s.setAF v).ime = s.ime := rfl
@[simp] theorem setAF_eiPending (s : State) (v : Word) : (s.setAF v).eiPending = s.eiPending := rfl
@[simp] theorem setAF_run (s : State) (v : Word) : (s.setAF v).run = s.run := rfl
@[simp] theorem setAF_mem (s : State) (v : Word) : (s.setAF v).mem = s.mem := rfl
@[simp] theorem setAF_env (s : State) (v : Word) : (s.setAF v).env = s.env := rfl
@[simp] theorem setAF_resetLine (s : State) (v : Word) : (s.setAF v).resetLine = s.resetLine := rfl
@[simp] theorem setAF_trace (s : State) (v : Word) : (s.setAF v).trace = s.trace := rfl

@[simp] theorem applyFlags_a (s : State) (ch : FlagChange) : (s.applyFlags ch).a = s.a := rfl
@[simp] theorem applyFlags_f (s : State) (ch : FlagChange) : (s.applyFlags ch).f = ch.applyTo s.f &&& 0xF0#8 := rfl
@[simp] theorem applyFlags_b (s : State) (ch : FlagChange) : (s.applyFlags ch).b = s.b := rfl
@[simp] theorem applyFlags_c (s : State) (ch : FlagChange) : (s.applyFlags ch).c = s.c := rfl
@[simp] theorem applyFlags_d (s : State) (ch : FlagChange) : (s.applyFlags ch).d = s.d := rfl
@[simp] theorem applyFlags_e (s : State) (ch : FlagChange) : (s.applyFlags ch).e = s.e := rfl
@[simp] theorem applyFlags_h (s : State) (ch : FlagChange) : (s.applyFlags ch).h = s.h := rfl
@[simp] theorem applyFlags_l (s : State) (ch : FlagChange) : (s.applyFlags ch).l = s.l := rfl
@[simp] theorem applyFlags_sp (s : State) (ch : FlagChange) : (s.applyFlags ch).sp = s.sp := rfl
@[simp] theorem applyFlags_pc (s : State) (ch : FlagChange) : (s.applyFlags ch).pc = s.pc := rfl
@[simp] theorem applyFlags_ir (s : State) (ch : FlagChange) : (s.applyFlags ch).ir = s.ir := rfl
@[simp] theorem applyFlags_ime (s : State) (ch : FlagChange) : (s.applyFlags ch).ime = s.ime := rfl
@[simp] theorem applyFlags_eiPending (s : State) (ch : FlagChange) : (s.applyFlags ch).eiPending = s.eiPending := rfl
@[simp] theorem applyFlags_run (s : State) (ch : FlagChange) : (s.applyFlags ch).run = s.run := rfl
@[simp] theorem applyFlags_mem (s : State) (ch : FlagChange) : (s.applyFlags ch).mem = s.mem := rfl
@[simp] theorem applyFlags_env (s : State) (ch : FlagChange) : (s.applyFlags ch).env = s.env := rfl
@[simp] theorem applyFlags_resetLine (s : State) (ch : FlagChange) : (s.applyFlags ch).resetLine = s.resetLine := rfl
@[simp] theorem applyFlags_trace (s : State) (ch : FlagChange) : (s.applyFlags ch).trace = s.trace := rfl

end Sys2Proof.Machine
end

