-- ==== Sys2Proof/Laws/Port.lean ====
section
/-! SUPPORT. The machine cycle and the port: what they leave of CORE's own registers, and what a frozen machine leaves. -/

namespace Sys2Proof.Machine

@[simp] theorem putByte_a (s : State) (a : Word) (v : Byte) : (s.putByte a v).a = s.a := rfl
@[simp] theorem act_a (s : State) (x : EnvAction) : (s.act x).a = s.a := by cases x <;> rfl
@[simp] theorem acts_a (s : State) (c : EnvCycle) : (s.acts c).a = s.a := by
  induction c generalizing s with
  | nil => rfl
  | cons x xs ih => simp [State.acts, ih]
@[simp] theorem tick_a (s : State) : s.tick.a = s.a := by
  unfold State.tick
  split <;> simp
@[simp] theorem cycle_a (s : State) (k : BusCycle) : (s.cycle k).a = s.a := by
  unfold State.cycle
  split <;> simp
@[simp] theorem idle_a (s : State) : s.idle.a = s.a := cycle_a s .idle
@[simp] theorem memWrite_a (s : State) (a : Word) (v : Byte) : (s.memWrite a v).a = s.a := by
  unfold State.memWrite
  split <;> simp
@[simp] theorem sideWrite_a (s : State) (a : Word) (v : Byte) : (s.sideWrite a v).a = s.a := by
  unfold State.sideWrite
  split <;> simp
@[simp] theorem acknowledge_a (s : State) (n : Interrupt) : (s.acknowledge n).a = s.a := sideWrite_a _ _ _
@[simp] theorem putByte_f (s : State) (a : Word) (v : Byte) : (s.putByte a v).f = s.f := rfl
@[simp] theorem act_f (s : State) (x : EnvAction) : (s.act x).f = s.f := by cases x <;> rfl
@[simp] theorem acts_f (s : State) (c : EnvCycle) : (s.acts c).f = s.f := by
  induction c generalizing s with
  | nil => rfl
  | cons x xs ih => simp [State.acts, ih]
@[simp] theorem tick_f (s : State) : s.tick.f = s.f := by
  unfold State.tick
  split <;> simp
@[simp] theorem cycle_f (s : State) (k : BusCycle) : (s.cycle k).f = s.f := by
  unfold State.cycle
  split <;> simp
@[simp] theorem idle_f (s : State) : s.idle.f = s.f := cycle_f s .idle
@[simp] theorem memWrite_f (s : State) (a : Word) (v : Byte) : (s.memWrite a v).f = s.f := by
  unfold State.memWrite
  split <;> simp
@[simp] theorem sideWrite_f (s : State) (a : Word) (v : Byte) : (s.sideWrite a v).f = s.f := by
  unfold State.sideWrite
  split <;> simp
@[simp] theorem acknowledge_f (s : State) (n : Interrupt) : (s.acknowledge n).f = s.f := sideWrite_f _ _ _
@[simp] theorem putByte_b (s : State) (a : Word) (v : Byte) : (s.putByte a v).b = s.b := rfl
@[simp] theorem act_b (s : State) (x : EnvAction) : (s.act x).b = s.b := by cases x <;> rfl
@[simp] theorem acts_b (s : State) (c : EnvCycle) : (s.acts c).b = s.b := by
  induction c generalizing s with
  | nil => rfl
  | cons x xs ih => simp [State.acts, ih]
@[simp] theorem tick_b (s : State) : s.tick.b = s.b := by
  unfold State.tick
  split <;> simp
@[simp] theorem cycle_b (s : State) (k : BusCycle) : (s.cycle k).b = s.b := by
  unfold State.cycle
  split <;> simp
@[simp] theorem idle_b (s : State) : s.idle.b = s.b := cycle_b s .idle
@[simp] theorem memWrite_b (s : State) (a : Word) (v : Byte) : (s.memWrite a v).b = s.b := by
  unfold State.memWrite
  split <;> simp
@[simp] theorem sideWrite_b (s : State) (a : Word) (v : Byte) : (s.sideWrite a v).b = s.b := by
  unfold State.sideWrite
  split <;> simp
@[simp] theorem acknowledge_b (s : State) (n : Interrupt) : (s.acknowledge n).b = s.b := sideWrite_b _ _ _
@[simp] theorem putByte_c (s : State) (a : Word) (v : Byte) : (s.putByte a v).c = s.c := rfl
@[simp] theorem act_c (s : State) (x : EnvAction) : (s.act x).c = s.c := by cases x <;> rfl
@[simp] theorem acts_c (s : State) (c : EnvCycle) : (s.acts c).c = s.c := by
  induction c generalizing s with
  | nil => rfl
  | cons x xs ih => simp [State.acts, ih]
@[simp] theorem tick_c (s : State) : s.tick.c = s.c := by
  unfold State.tick
  split <;> simp
@[simp] theorem cycle_c (s : State) (k : BusCycle) : (s.cycle k).c = s.c := by
  unfold State.cycle
  split <;> simp
@[simp] theorem idle_c (s : State) : s.idle.c = s.c := cycle_c s .idle
@[simp] theorem memWrite_c (s : State) (a : Word) (v : Byte) : (s.memWrite a v).c = s.c := by
  unfold State.memWrite
  split <;> simp
@[simp] theorem sideWrite_c (s : State) (a : Word) (v : Byte) : (s.sideWrite a v).c = s.c := by
  unfold State.sideWrite
  split <;> simp
@[simp] theorem acknowledge_c (s : State) (n : Interrupt) : (s.acknowledge n).c = s.c := sideWrite_c _ _ _
@[simp] theorem putByte_d (s : State) (a : Word) (v : Byte) : (s.putByte a v).d = s.d := rfl
@[simp] theorem act_d (s : State) (x : EnvAction) : (s.act x).d = s.d := by cases x <;> rfl
@[simp] theorem acts_d (s : State) (c : EnvCycle) : (s.acts c).d = s.d := by
  induction c generalizing s with
  | nil => rfl
  | cons x xs ih => simp [State.acts, ih]
@[simp] theorem tick_d (s : State) : s.tick.d = s.d := by
  unfold State.tick
  split <;> simp
@[simp] theorem cycle_d (s : State) (k : BusCycle) : (s.cycle k).d = s.d := by
  unfold State.cycle
  split <;> simp
@[simp] theorem idle_d (s : State) : s.idle.d = s.d := cycle_d s .idle
@[simp] theorem memWrite_d (s : State) (a : Word) (v : Byte) : (s.memWrite a v).d = s.d := by
  unfold State.memWrite
  split <;> simp
@[simp] theorem sideWrite_d (s : State) (a : Word) (v : Byte) : (s.sideWrite a v).d = s.d := by
  unfold State.sideWrite
  split <;> simp
@[simp] theorem acknowledge_d (s : State) (n : Interrupt) : (s.acknowledge n).d = s.d := sideWrite_d _ _ _
@[simp] theorem putByte_e (s : State) (a : Word) (v : Byte) : (s.putByte a v).e = s.e := rfl
@[simp] theorem act_e (s : State) (x : EnvAction) : (s.act x).e = s.e := by cases x <;> rfl
@[simp] theorem acts_e (s : State) (c : EnvCycle) : (s.acts c).e = s.e := by
  induction c generalizing s with
  | nil => rfl
  | cons x xs ih => simp [State.acts, ih]
@[simp] theorem tick_e (s : State) : s.tick.e = s.e := by
  unfold State.tick
  split <;> simp
@[simp] theorem cycle_e (s : State) (k : BusCycle) : (s.cycle k).e = s.e := by
  unfold State.cycle
  split <;> simp
@[simp] theorem idle_e (s : State) : s.idle.e = s.e := cycle_e s .idle
@[simp] theorem memWrite_e (s : State) (a : Word) (v : Byte) : (s.memWrite a v).e = s.e := by
  unfold State.memWrite
  split <;> simp
@[simp] theorem sideWrite_e (s : State) (a : Word) (v : Byte) : (s.sideWrite a v).e = s.e := by
  unfold State.sideWrite
  split <;> simp
@[simp] theorem acknowledge_e (s : State) (n : Interrupt) : (s.acknowledge n).e = s.e := sideWrite_e _ _ _
@[simp] theorem putByte_h (s : State) (a : Word) (v : Byte) : (s.putByte a v).h = s.h := rfl
@[simp] theorem act_h (s : State) (x : EnvAction) : (s.act x).h = s.h := by cases x <;> rfl
@[simp] theorem acts_h (s : State) (c : EnvCycle) : (s.acts c).h = s.h := by
  induction c generalizing s with
  | nil => rfl
  | cons x xs ih => simp [State.acts, ih]
@[simp] theorem tick_h (s : State) : s.tick.h = s.h := by
  unfold State.tick
  split <;> simp
@[simp] theorem cycle_h (s : State) (k : BusCycle) : (s.cycle k).h = s.h := by
  unfold State.cycle
  split <;> simp
@[simp] theorem idle_h (s : State) : s.idle.h = s.h := cycle_h s .idle
@[simp] theorem memWrite_h (s : State) (a : Word) (v : Byte) : (s.memWrite a v).h = s.h := by
  unfold State.memWrite
  split <;> simp
@[simp] theorem sideWrite_h (s : State) (a : Word) (v : Byte) : (s.sideWrite a v).h = s.h := by
  unfold State.sideWrite
  split <;> simp
@[simp] theorem acknowledge_h (s : State) (n : Interrupt) : (s.acknowledge n).h = s.h := sideWrite_h _ _ _
@[simp] theorem putByte_l (s : State) (a : Word) (v : Byte) : (s.putByte a v).l = s.l := rfl
@[simp] theorem act_l (s : State) (x : EnvAction) : (s.act x).l = s.l := by cases x <;> rfl
@[simp] theorem acts_l (s : State) (c : EnvCycle) : (s.acts c).l = s.l := by
  induction c generalizing s with
  | nil => rfl
  | cons x xs ih => simp [State.acts, ih]
@[simp] theorem tick_l (s : State) : s.tick.l = s.l := by
  unfold State.tick
  split <;> simp
@[simp] theorem cycle_l (s : State) (k : BusCycle) : (s.cycle k).l = s.l := by
  unfold State.cycle
  split <;> simp
@[simp] theorem idle_l (s : State) : s.idle.l = s.l := cycle_l s .idle
@[simp] theorem memWrite_l (s : State) (a : Word) (v : Byte) : (s.memWrite a v).l = s.l := by
  unfold State.memWrite
  split <;> simp
@[simp] theorem sideWrite_l (s : State) (a : Word) (v : Byte) : (s.sideWrite a v).l = s.l := by
  unfold State.sideWrite
  split <;> simp
@[simp] theorem acknowledge_l (s : State) (n : Interrupt) : (s.acknowledge n).l = s.l := sideWrite_l _ _ _
@[simp] theorem putByte_sp (s : State) (a : Word) (v : Byte) : (s.putByte a v).sp = s.sp := rfl
@[simp] theorem act_sp (s : State) (x : EnvAction) : (s.act x).sp = s.sp := by cases x <;> rfl
@[simp] theorem acts_sp (s : State) (c : EnvCycle) : (s.acts c).sp = s.sp := by
  induction c generalizing s with
  | nil => rfl
  | cons x xs ih => simp [State.acts, ih]
@[simp] theorem tick_sp (s : State) : s.tick.sp = s.sp := by
  unfold State.tick
  split <;> simp
@[simp] theorem cycle_sp (s : State) (k : BusCycle) : (s.cycle k).sp = s.sp := by
  unfold State.cycle
  split <;> simp
@[simp] theorem idle_sp (s : State) : s.idle.sp = s.sp := cycle_sp s .idle
@[simp] theorem memWrite_sp (s : State) (a : Word) (v : Byte) : (s.memWrite a v).sp = s.sp := by
  unfold State.memWrite
  split <;> simp
@[simp] theorem sideWrite_sp (s : State) (a : Word) (v : Byte) : (s.sideWrite a v).sp = s.sp := by
  unfold State.sideWrite
  split <;> simp
@[simp] theorem acknowledge_sp (s : State) (n : Interrupt) : (s.acknowledge n).sp = s.sp := sideWrite_sp _ _ _
@[simp] theorem putByte_pc (s : State) (a : Word) (v : Byte) : (s.putByte a v).pc = s.pc := rfl
@[simp] theorem act_pc (s : State) (x : EnvAction) : (s.act x).pc = s.pc := by cases x <;> rfl
@[simp] theorem acts_pc (s : State) (c : EnvCycle) : (s.acts c).pc = s.pc := by
  induction c generalizing s with
  | nil => rfl
  | cons x xs ih => simp [State.acts, ih]
@[simp] theorem tick_pc (s : State) : s.tick.pc = s.pc := by
  unfold State.tick
  split <;> simp
@[simp] theorem cycle_pc (s : State) (k : BusCycle) : (s.cycle k).pc = s.pc := by
  unfold State.cycle
  split <;> simp
@[simp] theorem idle_pc (s : State) : s.idle.pc = s.pc := cycle_pc s .idle
@[simp] theorem memWrite_pc (s : State) (a : Word) (v : Byte) : (s.memWrite a v).pc = s.pc := by
  unfold State.memWrite
  split <;> simp
@[simp] theorem sideWrite_pc (s : State) (a : Word) (v : Byte) : (s.sideWrite a v).pc = s.pc := by
  unfold State.sideWrite
  split <;> simp
@[simp] theorem acknowledge_pc (s : State) (n : Interrupt) : (s.acknowledge n).pc = s.pc := sideWrite_pc _ _ _
@[simp] theorem putByte_ir (s : State) (a : Word) (v : Byte) : (s.putByte a v).ir = s.ir := rfl
@[simp] theorem act_ir (s : State) (x : EnvAction) : (s.act x).ir = s.ir := by cases x <;> rfl
@[simp] theorem acts_ir (s : State) (c : EnvCycle) : (s.acts c).ir = s.ir := by
  induction c generalizing s with
  | nil => rfl
  | cons x xs ih => simp [State.acts, ih]
@[simp] theorem tick_ir (s : State) : s.tick.ir = s.ir := by
  unfold State.tick
  split <;> simp
@[simp] theorem cycle_ir (s : State) (k : BusCycle) : (s.cycle k).ir = s.ir := by
  unfold State.cycle
  split <;> simp
@[simp] theorem idle_ir (s : State) : s.idle.ir = s.ir := cycle_ir s .idle
@[simp] theorem memWrite_ir (s : State) (a : Word) (v : Byte) : (s.memWrite a v).ir = s.ir := by
  unfold State.memWrite
  split <;> simp
@[simp] theorem sideWrite_ir (s : State) (a : Word) (v : Byte) : (s.sideWrite a v).ir = s.ir := by
  unfold State.sideWrite
  split <;> simp
@[simp] theorem acknowledge_ir (s : State) (n : Interrupt) : (s.acknowledge n).ir = s.ir := sideWrite_ir _ _ _
@[simp] theorem putByte_ime (s : State) (a : Word) (v : Byte) : (s.putByte a v).ime = s.ime := rfl
@[simp] theorem act_ime (s : State) (x : EnvAction) : (s.act x).ime = s.ime := by cases x <;> rfl
@[simp] theorem acts_ime (s : State) (c : EnvCycle) : (s.acts c).ime = s.ime := by
  induction c generalizing s with
  | nil => rfl
  | cons x xs ih => simp [State.acts, ih]
@[simp] theorem tick_ime (s : State) : s.tick.ime = s.ime := by
  unfold State.tick
  split <;> simp
@[simp] theorem cycle_ime (s : State) (k : BusCycle) : (s.cycle k).ime = s.ime := by
  unfold State.cycle
  split <;> simp
@[simp] theorem idle_ime (s : State) : s.idle.ime = s.ime := cycle_ime s .idle
@[simp] theorem memWrite_ime (s : State) (a : Word) (v : Byte) : (s.memWrite a v).ime = s.ime := by
  unfold State.memWrite
  split <;> simp
@[simp] theorem sideWrite_ime (s : State) (a : Word) (v : Byte) : (s.sideWrite a v).ime = s.ime := by
  unfold State.sideWrite
  split <;> simp
@[simp] theorem acknowledge_ime (s : State) (n : Interrupt) : (s.acknowledge n).ime = s.ime := sideWrite_ime _ _ _
@[simp] theorem putByte_eiPending (s : State) (a : Word) (v : Byte) : (s.putByte a v).eiPending = s.eiPending := rfl
@[simp] theorem act_eiPending (s : State) (x : EnvAction) : (s.act x).eiPending = s.eiPending := by cases x <;> rfl
@[simp] theorem acts_eiPending (s : State) (c : EnvCycle) : (s.acts c).eiPending = s.eiPending := by
  induction c generalizing s with
  | nil => rfl
  | cons x xs ih => simp [State.acts, ih]
@[simp] theorem tick_eiPending (s : State) : s.tick.eiPending = s.eiPending := by
  unfold State.tick
  split <;> simp
@[simp] theorem cycle_eiPending (s : State) (k : BusCycle) : (s.cycle k).eiPending = s.eiPending := by
  unfold State.cycle
  split <;> simp
@[simp] theorem idle_eiPending (s : State) : s.idle.eiPending = s.eiPending := cycle_eiPending s .idle
@[simp] theorem memWrite_eiPending (s : State) (a : Word) (v : Byte) : (s.memWrite a v).eiPending = s.eiPending := by
  unfold State.memWrite
  split <;> simp
@[simp] theorem sideWrite_eiPending (s : State) (a : Word) (v : Byte) : (s.sideWrite a v).eiPending = s.eiPending := by
  unfold State.sideWrite
  split <;> simp
@[simp] theorem acknowledge_eiPending (s : State) (n : Interrupt) : (s.acknowledge n).eiPending = s.eiPending := sideWrite_eiPending _ _ _
@[simp] theorem putByte_run (s : State) (a : Word) (v : Byte) : (s.putByte a v).run = s.run := rfl
@[simp] theorem act_run (s : State) (x : EnvAction) : (s.act x).run = s.run := by cases x <;> rfl
@[simp] theorem acts_run (s : State) (c : EnvCycle) : (s.acts c).run = s.run := by
  induction c generalizing s with
  | nil => rfl
  | cons x xs ih => simp [State.acts, ih]
@[simp] theorem tick_run (s : State) : s.tick.run = s.run := by
  unfold State.tick
  split <;> simp
@[simp] theorem cycle_run (s : State) (k : BusCycle) : (s.cycle k).run = s.run := by
  unfold State.cycle
  split <;> simp
@[simp] theorem idle_run (s : State) : s.idle.run = s.run := cycle_run s .idle
@[simp] theorem memWrite_run (s : State) (a : Word) (v : Byte) : (s.memWrite a v).run = s.run := by
  unfold State.memWrite
  split <;> simp
@[simp] theorem sideWrite_run (s : State) (a : Word) (v : Byte) : (s.sideWrite a v).run = s.run := by
  unfold State.sideWrite
  split <;> simp
@[simp] theorem acknowledge_run (s : State) (n : Interrupt) : (s.acknowledge n).run = s.run := sideWrite_run _ _ _

@[simp] theorem memRead_fst (s : State) (a : Word) : (s.memRead a).1 = s.readByte a := rfl
@[simp] theorem memRead_snd (s : State) (a : Word) : (s.memRead a).2 = s.cycle (.read a (s.readByte a)) := rfl
@[simp] theorem sideRead_eq (s : State) (a : Word) : s.sideRead a = s.readByte a := rfl

@[simp] theorem setA_readByte (s : State) (v : Byte) (a : Word) : (s.setA v).readByte a = s.readByte a := rfl
@[simp] theorem setF_readByte (s : State) (v : Byte) (a : Word) : (s.setF v).readByte a = s.readByte a := rfl
@[simp] theorem setB_readByte (s : State) (v : Byte) (a : Word) : (s.setB v).readByte a = s.readByte a := rfl
@[simp] theorem setC_readByte (s : State) (v : Byte) (a : Word) : (s.setC v).readByte a = s.readByte a := rfl
@[simp] theorem setD_readByte (s : State) (v : Byte) (a : Word) : (s.setD v).readByte a = s.readByte a := rfl
@[simp] theorem setE_readByte (s : State) (v : Byte) (a : Word) : (s.setE v).readByte a = s.readByte a := rfl
@[simp] theorem setH_readByte (s : State) (v : Byte) (a : Word) : (s.setH v).readByte a = s.readByte a := rfl
@[simp] theorem setL_readByte (s : State) (v : Byte) (a : Word) : (s.setL v).readByte a = s.readByte a := rfl
@[simp] theorem setSp_readByte (s : State) (v : Word) (a : Word) : (s.setSp v).readByte a = s.readByte a := rfl
@[simp] theorem setPc_readByte (s : State) (v : Word) (a : Word) : (s.setPc v).readByte a = s.readByte a := rfl
@[simp] theorem setIr_readByte (s : State) (v : Byte) (a : Word) : (s.setIr v).readByte a = s.readByte a := rfl
@[simp] theorem setIme_readByte (s : State) (v : Bool) (a : Word) : (s.setIme v).readByte a = s.readByte a := rfl
@[simp] theorem setEiPending_readByte (s : State) (v : Bool) (a : Word) : (s.setEiPending v).readByte a = s.readByte a := rfl
@[simp] theorem setRun_readByte (s : State) (v : RunState) (a : Word) : (s.setRun v).readByte a = s.readByte a := rfl
@[simp] theorem setEnv_readByte (s : State) (v : List EnvCycle) (a : Word) : (s.setEnv v).readByte a = s.readByte a := rfl
@[simp] theorem setResetLine_readByte (s : State) (v : Bool) (a : Word) : (s.setResetLine v).readByte a = s.readByte a := rfl
@[simp] theorem setTrace_readByte (s : State) (v : List BusCycle) (a : Word) : (s.setTrace v).readByte a = s.readByte a := rfl
@[simp] theorem setBC_readByte (s : State) (v : Word) (a : Word) : (s.setBC v).readByte a = s.readByte a := rfl
@[simp] theorem setDE_readByte (s : State) (v : Word) (a : Word) : (s.setDE v).readByte a = s.readByte a := rfl
@[simp] theorem setHL_readByte (s : State) (v : Word) (a : Word) : (s.setHL v).readByte a = s.readByte a := rfl
@[simp] theorem setAF_readByte (s : State) (v : Word) (a : Word) : (s.setAF v).readByte a = s.readByte a := rfl
@[simp] theorem applyFlags_readByte (s : State) (ch : FlagChange) (a : Word) : (s.applyFlags ch).readByte a = s.readByte a := rfl

end Sys2Proof.Machine
end

