-- ==== Sys2Proof/Laws/Bus.lean ====
section
/-! SUPPORT. What CORE's operations do on the bus, said once per operation: the machine cycles they spend, what the environment
may do in them, and the bytes they leave (Sys2Proof/Safety.lean, `Emits`). -/

namespace Sys2Proof.Machine

/-! ### The environment's actions -/

@[simp] theorem act_env (s : State) (x : EnvAction) : (s.act x).env = s.env := by cases x <;> rfl
@[simp] theorem act_trace (s : State) (x : EnvAction) : (s.act x).trace = s.trace := by cases x <;> rfl

@[simp] theorem acts_env (s : State) (c : EnvCycle) : (s.acts c).env = s.env := by
  induction c generalizing s with
  | nil => rfl
  | cons x xs ih => simp [State.acts, ih]

@[simp] theorem acts_trace (s : State) (c : EnvCycle) : (s.acts c).trace = s.trace := by
  induction c generalizing s with
  | nil => rfl
  | cons x xs ih => simp [State.acts, ih]

theorem act_resetLine (s : State) (x : EnvAction) : (s.act x).resetLine = (s.resetLine || decide (x = .reset)) := by
  cases x <;> simp [State.act, State.putByte]

/-- Reset is asserted after a cycle's actions exactly if it was before, or one of them asserts it. -/
theorem acts_resetLine (s : State) (c : EnvCycle) :
    (s.acts c).resetLine = (s.resetLine || decide (EnvAction.reset ∈ c)) := by
  induction c generalizing s with
  | nil => simp [State.acts]
  | cons x xs ih => simp [State.acts, ih, act_resetLine, Bool.or_assoc, eq_comm]

theorem act_readByte {s : State} {x : EnvAction} {addr : Word} (h : ¬x.touches addr) :
    (s.act x).readByte addr = s.readByte addr := by
  cases x with
  | write a v =>
    rw [State.act, State.putByte_readByte, if_neg]
    exact fun e => h e.symm
  | request n =>
    rw [State.act, State.putByte_readByte, if_neg]
    exact fun e => h e.symm
  | reset => rfl

/-- A byte that no action of a cycle touches keeps its value through them. -/
theorem acts_readByte {s : State} {c : EnvCycle} {addr : Word} (h : ∀ x ∈ c, ¬x.touches addr) :
    (s.acts c).readByte addr = s.readByte addr := by
  induction c generalizing s with
  | nil => rfl
  | cons x xs ih =>
    rw [State.acts, ih fun y hy => h y (List.mem_cons_of_mem x hy), act_readByte (h x List.mem_cons_self)]

@[simp] theorem tick_env (s : State) : s.tick.env = s.env.drop 1 := by
  unfold State.tick
  split <;> simp [*]

@[simp] theorem tick_trace (s : State) : s.tick.trace = s.trace := by
  unfold State.tick
  split <;> simp

theorem tick_readByte {s : State} {addr : Word} (h : s.EnvSpares 1 addr) : s.tick.readByte addr = s.readByte addr := by
  unfold State.tick
  split
  · rfl
  · rw [acts_readByte, setEnv_readByte]
    intro x hx
    exact h _ (by simp [*]) x hx

/-! ### Memory's canonical form -/

theorem act_wf {s : State} (x : EnvAction) (h : s.mem.wf = true) : (s.act x).mem.wf = true := by
  cases x with
  | write a v => exact State.putByte_wf a v h
  | request n => exact State.putByte_wf _ _ h
  | reset => exact h

theorem acts_wf {s : State} (c : EnvCycle) (h : s.mem.wf = true) : (s.acts c).mem.wf = true := by
  induction c generalizing s with
  | nil => exact h
  | cons x xs ih => exact ih (act_wf x h)

theorem tick_wf {s : State} (h : s.mem.wf = true) : s.tick.mem.wf = true := by
  unfold State.tick
  split
  · exact h
  · exact acts_wf _ h

theorem cycle_wf {s : State} (k : BusCycle) (h : s.mem.wf = true) : (s.cycle k).mem.wf = true := by
  unfold State.cycle
  split
  · exact h
  · exact tick_wf h

theorem idle_wf {s : State} (h : s.mem.wf = true) : s.idle.mem.wf = true := cycle_wf _ h

theorem memRead_wf {s : State} (a : Word) (h : s.mem.wf = true) : (s.memRead a).2.mem.wf = true := cycle_wf _ h

theorem memWrite_wf {s : State} (a : Word) (v : Byte) (h : s.mem.wf = true) : (s.memWrite a v).mem.wf = true := by
  unfold State.memWrite
  split
  · exact h
  · exact cycle_wf _ (State.putByte_wf a v h)

theorem sideWrite_wf {s : State} (a : Word) (v : Byte) (h : s.mem.wf = true) : (s.sideWrite a v).mem.wf = true := by
  unfold State.sideWrite
  split
  · exact h
  · exact State.putByte_wf a v h

theorem acknowledge_wf {s : State} (n : Interrupt) (h : s.mem.wf = true) : (s.acknowledge n).mem.wf = true :=
  sideWrite_wf _ _ h

/-! ### A script without a reset -/

theorem State.NoReset.drop {s t : State} (h : s.NoReset) (n : Nat) (he : t.env = s.env.drop n)
    (hl : t.resetLine = s.resetLine) : t.NoReset :=
  ⟨hl.trans h.1, fun c hc => h.2 c (List.mem_of_mem_drop (he ▸ hc))⟩

theorem tick_resetLine {s : State} (h : s.NoReset) : s.tick.resetLine = s.resetLine := by
  unfold State.tick
  split
  · rfl
  · rw [acts_resetLine]
    have := h.2 _ (by rw [‹s.env = _›]; exact List.mem_cons_self)
    simp [this]

/-! ### What the operations emit -/

/-- A change of CORE's own registers emits nothing. -/
theorem Emits.none {s t : State} (ht : t.trace = s.trace) (he : t.env = s.env) (hl : t.resetLine = s.resetLine)
    (hm : t.mem = s.mem) : Emits s t [] where
  trace := ht
  env := he
  line := hl
  mem _ _ := by simp only [storedBy, State.readByte, hm]

theorem storedBy_append (addr : Word) (cs ds : List BusCycle) (v : Byte) :
    storedBy addr (cs ++ ds) v = storedBy addr ds (storedBy addr cs v) := by
  induction cs generalizing v with
  | nil => rfl
  | cons k cs ih => cases k <;> exact ih _

/-- One stretch of cycles after another. -/
theorem Emits.trans {s t u : State} {cs ds : List BusCycle} (h : Emits s t cs) (h' : Emits t u ds) :
    Emits s u (cs ++ ds) where
  trace := by rw [h'.trace, h.trace]; simp
  env := by rw [h'.env, h.env, List.drop_drop, List.length_append]
  line := h'.line.trans h.line
  mem addr ha := by
    rw [List.length_append] at ha
    rw [h'.mem addr, h.mem addr, storedBy_append]
    · intro c hc
      refine ha c ?_
      rw [List.take_add]
      exact List.mem_append_left _ hc
    · intro c hc
      rw [h.env] at hc
      refine ha c ?_
      rw [List.take_add]
      exact List.mem_append_right _ hc

theorem Emits.noReset {s t : State} {cs : List BusCycle} (h : Emits s t cs) (hs : s.NoReset) : t.NoReset :=
  hs.drop _ h.env h.line

theorem cycle_eq {s : State} (h : s.resetLine = false) (k : BusCycle) : s.cycle k = (s.setTrace (k :: s.trace)).tick := by
  simp [State.cycle, h]

theorem emits_idle {s : State} (h : s.NoReset) : Emits s s.idle [.idle] := by
  rw [State.idle, cycle_eq h.1]
  exact { trace := by simp, env := by simp, line := tick_resetLine h, mem := fun a ha => tick_readByte ha }

/-- `MemRead`: one `Read` entry with the environment's answer. -/
theorem emits_memRead {s : State} (h : s.NoReset) (a : Word) : Emits s (s.memRead a).2 [.read a (s.readByte a)] := by
  rw [memRead_snd, cycle_eq h.1]
  exact { trace := by simp, env := by simp, line := tick_resetLine h, mem := fun a ha => tick_readByte ha }

theorem emits_cycle_read {s : State} (h : s.NoReset) (a : Word) :
    Emits s (s.cycle (.read a (s.readByte a))) [.read a (s.readByte a)] := emits_memRead h a

/-- `MemWrite`: one `Write` entry, and the byte. -/
theorem emits_memWrite {s : State} (h : s.NoReset) (a : Word) (v : Byte) : Emits s (s.memWrite a v) [.write a v] := by
  rw [State.memWrite, h.1, if_neg (by decide), cycle_eq (by exact h.1)]
  exact {
    trace := by simp [State.putByte]
    env := by simp [State.putByte]
    line := tick_resetLine h
    mem := fun b hb => by
      refine (tick_readByte (s := (s.putByte a v).setTrace _) hb).trans ?_
      rw [setTrace_readByte, State.putByte_readByte]
      rfl }

/-! ### Immediates, the stack, the opcode fetch -/

@[simp] theorem imm8_fst (s : State) : s.imm8.1 = s.readByte s.pc := rfl
@[simp] theorem imm8_regs (s : State) : s.imm8.2.regs = { s.regs with pc := s.pc + 1 } := by
  simp [State.imm8, State.regs]

theorem emits_imm8 {s : State} (h : s.NoReset) : Emits s s.imm8.2 [.read s.pc (s.readByte s.pc)] :=
  (emits_memRead h s.pc).trans (.none rfl rfl rfl rfl)

theorem push16_regs (s : State) (v : Word) : (s.push16 v).regs = { s.regs with sp := s.sp - 2 } := by
  simp [State.push16, State.regs]

theorem emits_push16 {s : State} (h : s.NoReset) (v : Word) :
    Emits s (s.push16 v) [.write (s.sp - 1) (hiByte v), .write (s.sp - 2) (loByte v)] := by
  have h1 : Emits s (s.setSp (s.sp - 1)) [] := .none rfl rfl rfl rfl
  have h2 := h1.trans (emits_memWrite (h1.noReset h) (s.sp - 1) (hiByte v))
  have h3 := h2.trans (.none (t := State.setSp _ (s.sp - 2)) rfl rfl rfl rfl)
  exact h3.trans (emits_memWrite (h3.noReset h) (s.sp - 2) (loByte v))

theorem pop16_regs (s : State) : s.pop16.2.regs = { s.regs with sp := s.sp + 2 } := by
  simp [State.pop16, State.regs]

/-- The word that `Pop16` answers: the byte at SP, and above it the byte at SP + 1 when the second cycle reads it. -/
theorem pop16_fst (s : State) :
    s.pop16.1 = pair ((s.cycle (.read s.sp (s.readByte s.sp))).readByte (s.sp + 1)) (s.readByte s.sp) := rfl

/-- `Pop16`: two `Read` entries; the word is the two bytes read, low byte first. -/
theorem emits_pop16 {s : State} (h : s.NoReset) :
    Emits s s.pop16.2 [.read s.sp (loByte s.pop16.1), .read (s.sp + 1) (hiByte s.pop16.1)] := by
  have h1 := (emits_memRead h s.sp).trans (.none (t := (s.memRead s.sp).2.setSp (s.sp + 1)) rfl rfl rfl rfl)
  have h2 := h1.trans (emits_memRead (h1.noReset h) (s.sp + 1))
  have h3 := h2.trans (.none (t := s.pop16.2) rfl rfl rfl rfl)
  simpa [pop16_fst] using h3

/-- Where the environment spares the byte at SP + 1 in the first of the two cycles, `Pop16` answers what memory held. -/
theorem pop16_fst_spared {s : State} (h : s.NoReset) (hs : s.EnvSpares 1 (s.sp + 1)) :
    s.pop16.1 = pair (s.readByte (s.sp + 1)) (s.readByte s.sp) := by
  rw [pop16_fst, (emits_cycle_read h s.sp).mem (s.sp + 1) hs]
  rfl

theorem fetchOpcode_regs (s : State) :
    s.fetchOpcode.regs = { s.regs with ir := s.readByte s.pc, pc := s.pc + 1 } := by
  simp [State.fetchOpcode, State.regs]

theorem emits_fetchOpcode {s : State} (h : s.NoReset) : Emits s s.fetchOpcode [.read s.pc (s.readByte s.pc)] :=
  (emits_memRead h s.pc).trans (.none rfl rfl rfl rfl)

end Sys2Proof.Machine
end

