-- ==== Sys2Proof/Laws/Shape.lean ====
section
/-! SUPPORT. The families of the instructions: every instruction is a row of one of them, so that a proof about all of them
is a proof about each family. -/

namespace Sys2Proof

/-- The families: the builders of Sys2Proof/Decode.lean and the instructions that stand alone. -/
inductive Shape : Instr → Prop where
  | ld8 (x r : R8) (h : ¬(x = .atHl ∧ r = .atHl)) : Shape (Instr.ld8 x r)
  | ld8Imm (r : R8) (v : Byte) : Shape (Instr.ld8Imm r v)
  | inc8 (r : R8) : Shape (Instr.inc8 r)
  | dec8 (r : R8) : Shape (Instr.dec8 r)
  | ld16Imm (p : Rp) (v : Word) : Shape (Instr.ld16Imm p v)
  | addHl (p : Rp) : Shape (Instr.addHl p)
  | inc16 (p : Rp) : Shape (Instr.inc16 p)
  | dec16 (p : Rp) : Shape (Instr.dec16 p)
  | storeInd (m : Ind) : Shape (Instr.storeInd m)
  | loadInd (m : Ind) : Shape (Instr.loadInd m)
  | alu8 (x : AluOp) (r : R8) : Shape (Instr.alu8 x r)
  | alu8Imm (x : AluOp) (v : Byte) : Shape (Instr.alu8Imm x v)
  | push (p : Rp2) : Shape (Instr.push p)
  | pop (p : Rp2) : Shape (Instr.pop p)
  | jrCc (q : Cond) (v : Byte) : Shape (Instr.jrCc q v)
  | jpCc (q : Cond) (v : Word) : Shape (Instr.jpCc q v)
  | callCc (q : Cond) (v : Word) : Shape (Instr.callCc q v)
  | retCc (q : Cond) : Shape (Instr.retCc q)
  | rst (n : Nat) (h : n < 8) : Shape (Instr.rst n)
  | rot (x : RotOp) (r : R8) : Shape (Instr.rot x r)
  | bit (n : Nat) (r : R8) (h : n < 8) : Shape (Instr.bit n r)
  | res (n : Nat) (r : R8) (h : n < 8) : Shape (Instr.res n r)
  | set (n : Nat) (r : R8) (h : n < 8) : Shape (Instr.set n r)
  | nop : Shape .nop
  | rlca : Shape .rlca
  | ldAtA16Sp (a : Word) : Shape (.ldAtA16Sp a)
  | rrca : Shape .rrca
  | stop : Shape .stop
  | rla : Shape .rla
  | jrE8 (e : Byte) : Shape (.jrE8 e)
  | rra : Shape .rra
  | daa : Shape .daa
  | cpl : Shape .cpl
  | scf : Shape .scf
  | ccf : Shape .ccf
  | halt : Shape .halt
  | jpA16 (a : Word) : Shape (.jpA16 a)
  | ret : Shape .ret
  | prefixCb : Shape .prefixCb
  | callA16 (a : Word) : Shape (.callA16 a)
  | illegal (op : Byte) : Shape (.illegal op)
  | reti : Shape .reti
  | ldhAtA8A (a : Byte) : Shape (.ldhAtA8A a)
  | ldAtCA : Shape .ldAtCA
  | addSpE8 (e : Byte) : Shape (.addSpE8 e)
  | jpHl : Shape .jpHl
  | ldAtA16A (a : Word) : Shape (.ldAtA16A a)
  | ldhAAtA8 (a : Byte) : Shape (.ldhAAtA8 a)
  | ldAAtC : Shape .ldAAtC
  | di : Shape .di
  | ldHlSpE8 (e : Byte) : Shape (.ldHlSpE8 e)
  | ldSpHl : Shape .ldSpHl
  | ldAAtA16 (a : Word) : Shape (.ldAAtA16 a)
  | ei : Shape .ei

/-- Every instruction is a row of a family. -/
theorem Instr.shape : (i : Instr) → Shape i
  | .nop => .nop
  | .ldBcD16 v => .ld16Imm .bc v
  | .ldAtBcA => .storeInd .bc
  | .incBc => .inc16 .bc
  | .incB => .inc8 .b
  | .decB => .dec8 .b
  | .ldBD8 v => .ld8Imm .b v
  | .rlca => .rlca
  | .ldAtA16Sp a => .ldAtA16Sp a
  | .addHlBc => .addHl .bc
  | .ldAAtBc => .loadInd .bc
  | .decBc => .dec16 .bc
  | .incC => .inc8 .c
  | .decC => .dec8 .c
  | .ldCD8 v => .ld8Imm .c v
  | .rrca => .rrca
  | .stop => .stop
  | .ldDeD16 v => .ld16Imm .de v
  | .ldAtDeA => .storeInd .de
  | .incDe => .inc16 .de
  | .incD => .inc8 .d
  | .decD => .dec8 .d
  | .ldDD8 v => .ld8Imm .d v
  | .rla => .rla
  | .jrE8 e => .jrE8 e
  | .addHlDe => .addHl .de
  | .ldAAtDe => .loadInd .de
  | .decDe => .dec16 .de
  | .incE => .inc8 .e
  | .decE => .dec8 .e
  | .ldED8 v => .ld8Imm .e v
  | .rra => .rra
  | .jrNzE8 e => .jrCc .nz e
  | .ldHlD16 v => .ld16Imm .hl v
  | .ldAtHlIncA => .storeInd .hlInc
  | .incHl => .inc16 .hl
  | .incH => .inc8 .h
  | .decH => .dec8 .h
  | .ldHD8 v => .ld8Imm .h v
  | .daa => .daa
  | .jrZE8 e => .jrCc .z e
  | .addHlHl => .addHl .hl
  | .ldAAtHlInc => .loadInd .hlInc
  | .decHl => .dec16 .hl
  | .incL => .inc8 .l
  | .decL => .dec8 .l
  | .ldLD8 v => .ld8Imm .l v
  | .cpl => .cpl
  | .jrNcE8 e => .jrCc .nc e
  | .ldSpD16 v => .ld16Imm .sp v
  | .ldAtHlDecA => .storeInd .hlDec
  | .incSp => .inc16 .sp
  | .incAtHl => .inc8 .atHl
  | .decAtHl => .dec8 .atHl
  | .ldAtHlD8 v => .ld8Imm .atHl v
  | .scf => .scf
  | .jrCE8 e => .jrCc .c e
  | .addHlSp => .addHl .sp
  | .ldAAtHlDec => .loadInd .hlDec
  | .decSp => .dec16 .sp
  | .incA => .inc8 .a
  | .decA => .dec8 .a
  | .ldAD8 v => .ld8Imm .a v
  | .ccf => .ccf
  | .ldBB => .ld8 .b .b (by simp)
  | .ldBC => .ld8 .b .c (by simp)
  | .ldBD => .ld8 .b .d (by simp)
  | .ldBE => .ld8 .b .e (by simp)
  | .ldBH => .ld8 .b .h (by simp)
  | .ldBL => .ld8 .b .l (by simp)
  | .ldBAtHl => .ld8 .b .atHl (by simp)
  | .ldBA => .ld8 .b .a (by simp)
  | .ldCB => .ld8 .c .b (by simp)
  | .ldCC => .ld8 .c .c (by simp)
  | .ldCD => .ld8 .c .d (by simp)
  | .ldCE => .ld8 .c .e (by simp)
  | .ldCH => .ld8 .c .h (by simp)
  | .ldCL => .ld8 .c .l (by simp)
  | .ldCAtHl => .ld8 .c .atHl (by simp)
  | .ldCA => .ld8 .c .a (by simp)
  | .ldDB => .ld8 .d .b (by simp)
  | .ldDC => .ld8 .d .c (by simp)
  | .ldDD => .ld8 .d .d (by simp)
  | .ldDE => .ld8 .d .e (by simp)
  | .ldDH => .ld8 .d .h (by simp)
  | .ldDL => .ld8 .d .l (by simp)
  | .ldDAtHl => .ld8 .d .atHl (by simp)
  | .ldDA => .ld8 .d .a (by simp)
  | .ldEB => .ld8 .e .b (by simp)
  | .ldEC => .ld8 .e .c (by simp)
  | .ldED => .ld8 .e .d (by simp)
  | .ldEE => .ld8 .e .e (by simp)
  | .ldEH => .ld8 .e .h (by simp)
  | .ldEL => .ld8 .e .l (by simp)
  | .ldEAtHl => .ld8 .e .atHl (by simp)
  | .ldEA => .ld8 .e .a (by simp)
  | .ldHB => .ld8 .h .b (by simp)
  | .ldHC => .ld8 .h .c (by simp)
  | .ldHD => .ld8 .h .d (by simp)
  | .ldHE => .ld8 .h .e (by simp)
  | .ldHH => .ld8 .h .h (by simp)
  | .ldHL => .ld8 .h .l (by simp)
  | .ldHAtHl => .ld8 .h .atHl (by simp)
  | .ldHA => .ld8 .h .a (by simp)
  | .ldLB => .ld8 .l .b (by simp)
  | .ldLC => .ld8 .l .c (by simp)
  | .ldLD => .ld8 .l .d (by simp)
  | .ldLE => .ld8 .l .e (by simp)
  | .ldLH => .ld8 .l .h (by simp)
  | .ldLL => .ld8 .l .l (by simp)
  | .ldLAtHl => .ld8 .l .atHl (by simp)
  | .ldLA => .ld8 .l .a (by simp)
  | .ldAtHlB => .ld8 .atHl .b (by simp)
  | .ldAtHlC => .ld8 .atHl .c (by simp)
  | .ldAtHlD => .ld8 .atHl .d (by simp)
  | .ldAtHlE => .ld8 .atHl .e (by simp)
  | .ldAtHlH => .ld8 .atHl .h (by simp)
  | .ldAtHlL => .ld8 .atHl .l (by simp)
  | .halt => .halt
  | .ldAtHlA => .ld8 .atHl .a (by simp)
  | .ldAB => .ld8 .a .b (by simp)
  | .ldAC => .ld8 .a .c (by simp)
  | .ldAD => .ld8 .a .d (by simp)
  | .ldAE => .ld8 .a .e (by simp)
  | .ldAH => .ld8 .a .h (by simp)
  | .ldAL => .ld8 .a .l (by simp)
  | .ldAAtHl => .ld8 .a .atHl (by simp)
  | .ldAA => .ld8 .a .a (by simp)
  | .addAB => .alu8 .add .b
  | .addAC => .alu8 .add .c
  | .addAD => .alu8 .add .d
  | .addAE => .alu8 .add .e
  | .addAH => .alu8 .add .h
  | .addAL => .alu8 .add .l
  | .addAAtHl => .alu8 .add .atHl
  | .addAA => .alu8 .add .a
  | .adcAB => .alu8 .adc .b
  | .adcAC => .alu8 .adc .c
  | .adcAD => .alu8 .adc .d
  | .adcAE => .alu8 .adc .e
  | .adcAH => .alu8 .adc .h
  | .adcAL => .alu8 .adc .l
  | .adcAAtHl => .alu8 .adc .atHl
  | .adcAA => .alu8 .adc .a
  | .subB => .alu8 .sub .b
  | .subC => .alu8 .sub .c
  | .subD => .alu8 .sub .d
  | .subE => .alu8 .sub .e
  | .subH => .alu8 .sub .h
  | .subL => .alu8 .sub .l
  | .subAtHl => .alu8 .sub .atHl
  | .subA => .alu8 .sub .a
  | .sbcAB => .alu8 .sbc .b
  | .sbcAC => .alu8 .sbc .c
  | .sbcAD => .alu8 .sbc .d
  | .sbcAE => .alu8 .sbc .e
  | .sbcAH => .alu8 .sbc .h
  | .sbcAL => .alu8 .sbc .l
  | .sbcAAtHl => .alu8 .sbc .atHl
  | .sbcAA => .alu8 .sbc .a
  | .andB => .alu8 .and .b
  | .andC => .alu8 .and .c
  | .andD => .alu8 .and .d
  | .andE => .alu8 .and .e
  | .andH => .alu8 .and .h
  | .andL => .alu8 .and .l
  | .andAtHl => .alu8 .and .atHl
  | .andA => .alu8 .and .a
  | .xorB => .alu8 .xor .b
  | .xorC => .alu8 .xor .c
  | .xorD => .alu8 .xor .d
  | .xorE => .alu8 .xor .e
  | .xorH => .alu8 .xor .h
  | .xorL => .alu8 .xor .l
  | .xorAtHl => .alu8 .xor .atHl
  | .xorA => .alu8 .xor .a
  | .orB => .alu8 .or .b
  | .orC => .alu8 .or .c
  | .orD => .alu8 .or .d
  | .orE => .alu8 .or .e
  | .orH => .alu8 .or .h
  | .orL => .alu8 .or .l
  | .orAtHl => .alu8 .or .atHl
  | .orA => .alu8 .or .a
  | .cpB => .alu8 .cp .b
  | .cpC => .alu8 .cp .c
  | .cpD => .alu8 .cp .d
  | .cpE => .alu8 .cp .e
  | .cpH => .alu8 .cp .h
  | .cpL => .alu8 .cp .l
  | .cpAtHl => .alu8 .cp .atHl
  | .cpA => .alu8 .cp .a
  | .retNz => .retCc .nz
  | .popBc => .pop .bc
  | .jpNzA16 a => .jpCc .nz a
  | .jpA16 a => .jpA16 a
  | .callNzA16 a => .callCc .nz a
  | .pushBc => .push .bc
  | .addAD8 v => .alu8Imm .add v
  | .rst00 => .rst 0 (by decide)
  | .retZ => .retCc .z
  | .ret => .ret
  | .jpZA16 a => .jpCc .z a
  | .prefixCb => .prefixCb
  | .callZA16 a => .callCc .z a
  | .callA16 a => .callA16 a
  | .adcAD8 v => .alu8Imm .adc v
  | .rst08 => .rst 1 (by decide)
  | .retNc => .retCc .nc
  | .popDe => .pop .de
  | .jpNcA16 a => .jpCc .nc a
  | .illegal op => .illegal op
  | .callNcA16 a => .callCc .nc a
  | .pushDe => .push .de
  | .subD8 v => .alu8Imm .sub v
  | .rst10 => .rst 2 (by decide)
  | .retC => .retCc .c
  | .reti => .reti
  | .jpCA16 a => .jpCc .c a
  | .callCA16 a => .callCc .c a
  | .sbcAD8 v => .alu8Imm .sbc v
  | .rst18 => .rst 3 (by decide)
  | .ldhAtA8A a => .ldhAtA8A a
  | .popHl => .pop .hl
  | .ldAtCA => .ldAtCA
  | .pushHl => .push .hl
  | .andD8 v => .alu8Imm .and v
  | .rst20 => .rst 4 (by decide)
  | .addSpE8 e => .addSpE8 e
  | .jpHl => .jpHl
  | .ldAtA16A a => .ldAtA16A a
  | .xorD8 v => .alu8Imm .xor v
  | .rst28 => .rst 5 (by decide)
  | .ldhAAtA8 a => .ldhAAtA8 a
  | .popAf => .pop .af
  | .ldAAtC => .ldAAtC
  | .di => .di
  | .pushAf => .push .af
  | .orD8 v => .alu8Imm .or v
  | .rst30 => .rst 6 (by decide)
  | .ldHlSpE8 e => .ldHlSpE8 e
  | .ldSpHl => .ldSpHl
  | .ldAAtA16 a => .ldAAtA16 a
  | .ei => .ei
  | .cpD8 v => .alu8Imm .cp v
  | .rst38 => .rst 7 (by decide)
  | .rlcB => .rot .rlc .b
  | .rlcC => .rot .rlc .c
  | .rlcD => .rot .rlc .d
  | .rlcE => .rot .rlc .e
  | .rlcH => .rot .rlc .h
  | .rlcL => .rot .rlc .l
  | .rlcAtHl => .rot .rlc .atHl
  | .rlcA => .rot .rlc .a
  | .rrcB => .rot .rrc .b
  | .rrcC => .rot .rrc .c
  | .rrcD => .rot .rrc .d
  | .rrcE => .rot .rrc .e
  | .rrcH => .rot .rrc .h
  | .rrcL => .rot .rrc .l
  | .rrcAtHl => .rot .rrc .atHl
  | .rrcA => .rot .rrc .a
  | .rlB => .rot .rl .b
  | .rlC => .rot .rl .c
  | .rlD => .rot .rl .d
  | .rlE => .rot .rl .e
  | .rlH => .rot .rl .h
  | .rlL => .rot .rl .l
  | .rlAtHl => .rot .rl .atHl
  | .rlA => .rot .rl .a
  | .rrB => .rot .rr .b
  | .rrC => .rot .rr .c
  | .rrD => .rot .rr .d
  | .rrE => .rot .rr .e
  | .rrH => .rot .rr .h
  | .rrL => .rot .rr .l
  | .rrAtHl => .rot .rr .atHl
  | .rrA => .rot .rr .a
  | .slaB => .rot .sla .b
  | .slaC => .rot .sla .c
  | .slaD => .rot .sla .d
  | .slaE => .rot .sla .e
  | .slaH => .rot .sla .h
  | .slaL => .rot .sla .l
  | .slaAtHl => .rot .sla .atHl
  | .slaA => .rot .sla .a
  | .sraB => .rot .sra .b
  | .sraC => .rot .sra .c
  | .sraD => .rot .sra .d
  | .sraE => .rot .sra .e
  | .sraH => .rot .sra .h
  | .sraL => .rot .sra .l
  | .sraAtHl => .rot .sra .atHl
  | .sraA => .rot .sra .a
  | .swapB => .rot .swap .b
  | .swapC => .rot .swap .c
  | .swapD => .rot .swap .d
  | .swapE => .rot .swap .e
  | .swapH => .rot .swap .h
  | .swapL => .rot .swap .l
  | .swapAtHl => .rot .swap .atHl
  | .swapA => .rot .swap .a
  | .srlB => .rot .srl .b
  | .srlC => .rot .srl .c
  | .srlD => .rot .srl .d
  | .srlE => .rot .srl .e
  | .srlH => .rot .srl .h
  | .srlL => .rot .srl .l
  | .srlAtHl => .rot .srl .atHl
  | .srlA => .rot .srl .a
  | .bit0B => .bit 0 .b (by decide)
  | .bit0C => .bit 0 .c (by decide)
  | .bit0D => .bit 0 .d (by decide)
  | .bit0E => .bit 0 .e (by decide)
  | .bit0H => .bit 0 .h (by decide)
  | .bit0L => .bit 0 .l (by decide)
  | .bit0AtHl => .bit 0 .atHl (by decide)
  | .bit0A => .bit 0 .a (by decide)
  | .bit1B => .bit 1 .b (by decide)
  | .bit1C => .bit 1 .c (by decide)
  | .bit1D => .bit 1 .d (by decide)
  | .bit1E => .bit 1 .e (by decide)
  | .bit1H => .bit 1 .h (by decide)
  | .bit1L => .bit 1 .l (by decide)
  | .bit1AtHl => .bit 1 .atHl (by decide)
  | .bit1A => .bit 1 .a (by decide)
  | .bit2B => .bit 2 .b (by decide)
  | .bit2C => .bit 2 .c (by decide)
  | .bit2D => .bit 2 .d (by decide)
  | .bit2E => .bit 2 .e (by decide)
  | .bit2H => .bit 2 .h (by decide)
  | .bit2L => .bit 2 .l (by decide)
  | .bit2AtHl => .bit 2 .atHl (by decide)
  | .bit2A => .bit 2 .a (by decide)
  | .bit3B => .bit 3 .b (by decide)
  | .bit3C => .bit 3 .c (by decide)
  | .bit3D => .bit 3 .d (by decide)
  | .bit3E => .bit 3 .e (by decide)
  | .bit3H => .bit 3 .h (by decide)
  | .bit3L => .bit 3 .l (by decide)
  | .bit3AtHl => .bit 3 .atHl (by decide)
  | .bit3A => .bit 3 .a (by decide)
  | .bit4B => .bit 4 .b (by decide)
  | .bit4C => .bit 4 .c (by decide)
  | .bit4D => .bit 4 .d (by decide)
  | .bit4E => .bit 4 .e (by decide)
  | .bit4H => .bit 4 .h (by decide)
  | .bit4L => .bit 4 .l (by decide)
  | .bit4AtHl => .bit 4 .atHl (by decide)
  | .bit4A => .bit 4 .a (by decide)
  | .bit5B => .bit 5 .b (by decide)
  | .bit5C => .bit 5 .c (by decide)
  | .bit5D => .bit 5 .d (by decide)
  | .bit5E => .bit 5 .e (by decide)
  | .bit5H => .bit 5 .h (by decide)
  | .bit5L => .bit 5 .l (by decide)
  | .bit5AtHl => .bit 5 .atHl (by decide)
  | .bit5A => .bit 5 .a (by decide)
  | .bit6B => .bit 6 .b (by decide)
  | .bit6C => .bit 6 .c (by decide)
  | .bit6D => .bit 6 .d (by decide)
  | .bit6E => .bit 6 .e (by decide)
  | .bit6H => .bit 6 .h (by decide)
  | .bit6L => .bit 6 .l (by decide)
  | .bit6AtHl => .bit 6 .atHl (by decide)
  | .bit6A => .bit 6 .a (by decide)
  | .bit7B => .bit 7 .b (by decide)
  | .bit7C => .bit 7 .c (by decide)
  | .bit7D => .bit 7 .d (by decide)
  | .bit7E => .bit 7 .e (by decide)
  | .bit7H => .bit 7 .h (by decide)
  | .bit7L => .bit 7 .l (by decide)
  | .bit7AtHl => .bit 7 .atHl (by decide)
  | .bit7A => .bit 7 .a (by decide)
  | .res0B => .res 0 .b (by decide)
  | .res0C => .res 0 .c (by decide)
  | .res0D => .res 0 .d (by decide)
  | .res0E => .res 0 .e (by decide)
  | .res0H => .res 0 .h (by decide)
  | .res0L => .res 0 .l (by decide)
  | .res0AtHl => .res 0 .atHl (by decide)
  | .res0A => .res 0 .a (by decide)
  | .res1B => .res 1 .b (by decide)
  | .res1C => .res 1 .c (by decide)
  | .res1D => .res 1 .d (by decide)
  | .res1E => .res 1 .e (by decide)
  | .res1H => .res 1 .h (by decide)
  | .res1L => .res 1 .l (by decide)
  | .res1AtHl => .res 1 .atHl (by decide)
  | .res1A => .res 1 .a (by decide)
  | .res2B => .res 2 .b (by decide)
  | .res2C => .res 2 .c (by decide)
  | .res2D => .res 2 .d (by decide)
  | .res2E => .res 2 .e (by decide)
  | .res2H => .res 2 .h (by decide)
  | .res2L => .res 2 .l (by decide)
  | .res2AtHl => .res 2 .atHl (by decide)
  | .res2A => .res 2 .a (by decide)
  | .res3B => .res 3 .b (by decide)
  | .res3C => .res 3 .c (by decide)
  | .res3D => .res 3 .d (by decide)
  | .res3E => .res 3 .e (by decide)
  | .res3H => .res 3 .h (by decide)
  | .res3L => .res 3 .l (by decide)
  | .res3AtHl => .res 3 .atHl (by decide)
  | .res3A => .res 3 .a (by decide)
  | .res4B => .res 4 .b (by decide)
  | .res4C => .res 4 .c (by decide)
  | .res4D => .res 4 .d (by decide)
  | .res4E => .res 4 .e (by decide)
  | .res4H => .res 4 .h (by decide)
  | .res4L => .res 4 .l (by decide)
  | .res4AtHl => .res 4 .atHl (by decide)
  | .res4A => .res 4 .a (by decide)
  | .res5B => .res 5 .b (by decide)
  | .res5C => .res 5 .c (by decide)
  | .res5D => .res 5 .d (by decide)
  | .res5E => .res 5 .e (by decide)
  | .res5H => .res 5 .h (by decide)
  | .res5L => .res 5 .l (by decide)
  | .res5AtHl => .res 5 .atHl (by decide)
  | .res5A => .res 5 .a (by decide)
  | .res6B => .res 6 .b (by decide)
  | .res6C => .res 6 .c (by decide)
  | .res6D => .res 6 .d (by decide)
  | .res6E => .res 6 .e (by decide)
  | .res6H => .res 6 .h (by decide)
  | .res6L => .res 6 .l (by decide)
  | .res6AtHl => .res 6 .atHl (by decide)
  | .res6A => .res 6 .a (by decide)
  | .res7B => .res 7 .b (by decide)
  | .res7C => .res 7 .c (by decide)
  | .res7D => .res 7 .d (by decide)
  | .res7E => .res 7 .e (by decide)
  | .res7H => .res 7 .h (by decide)
  | .res7L => .res 7 .l (by decide)
  | .res7AtHl => .res 7 .atHl (by decide)
  | .res7A => .res 7 .a (by decide)
  | .set0B => .set 0 .b (by decide)
  | .set0C => .set 0 .c (by decide)
  | .set0D => .set 0 .d (by decide)
  | .set0E => .set 0 .e (by decide)
  | .set0H => .set 0 .h (by decide)
  | .set0L => .set 0 .l (by decide)
  | .set0AtHl => .set 0 .atHl (by decide)
  | .set0A => .set 0 .a (by decide)
  | .set1B => .set 1 .b (by decide)
  | .set1C => .set 1 .c (by decide)
  | .set1D => .set 1 .d (by decide)
  | .set1E => .set 1 .e (by decide)
  | .set1H => .set 1 .h (by decide)
  | .set1L => .set 1 .l (by decide)
  | .set1AtHl => .set 1 .atHl (by decide)
  | .set1A => .set 1 .a (by decide)
  | .set2B => .set 2 .b (by decide)
  | .set2C => .set 2 .c (by decide)
  | .set2D => .set 2 .d (by decide)
  | .set2E => .set 2 .e (by decide)
  | .set2H => .set 2 .h (by decide)
  | .set2L => .set 2 .l (by decide)
  | .set2AtHl => .set 2 .atHl (by decide)
  | .set2A => .set 2 .a (by decide)
  | .set3B => .set 3 .b (by decide)
  | .set3C => .set 3 .c (by decide)
  | .set3D => .set 3 .d (by decide)
  | .set3E => .set 3 .e (by decide)
  | .set3H => .set 3 .h (by decide)
  | .set3L => .set 3 .l (by decide)
  | .set3AtHl => .set 3 .atHl (by decide)
  | .set3A => .set 3 .a (by decide)
  | .set4B => .set 4 .b (by decide)
  | .set4C => .set 4 .c (by decide)
  | .set4D => .set 4 .d (by decide)
  | .set4E => .set 4 .e (by decide)
  | .set4H => .set 4 .h (by decide)
  | .set4L => .set 4 .l (by decide)
  | .set4AtHl => .set 4 .atHl (by decide)
  | .set4A => .set 4 .a (by decide)
  | .set5B => .set 5 .b (by decide)
  | .set5C => .set 5 .c (by decide)
  | .set5D => .set 5 .d (by decide)
  | .set5E => .set 5 .e (by decide)
  | .set5H => .set 5 .h (by decide)
  | .set5L => .set 5 .l (by decide)
  | .set5AtHl => .set 5 .atHl (by decide)
  | .set5A => .set 5 .a (by decide)
  | .set6B => .set 6 .b (by decide)
  | .set6C => .set 6 .c (by decide)
  | .set6D => .set 6 .d (by decide)
  | .set6E => .set 6 .e (by decide)
  | .set6H => .set 6 .h (by decide)
  | .set6L => .set 6 .l (by decide)
  | .set6AtHl => .set 6 .atHl (by decide)
  | .set6A => .set 6 .a (by decide)
  | .set7B => .set 7 .b (by decide)
  | .set7C => .set 7 .c (by decide)
  | .set7D => .set 7 .d (by decide)
  | .set7E => .set 7 .e (by decide)
  | .set7H => .set 7 .h (by decide)
  | .set7L => .set 7 .l (by decide)
  | .set7AtHl => .set 7 .atHl (by decide)
  | .set7A => .set 7 .a (by decide)

end Sys2Proof
end

