-- ==== Sys2Proof/Laws/Exec.lean ====
section
/-! SUPPORT. The meaning of each family as the shared operation it runs. -/

namespace Sys2Proof.Machine

@[simp] theorem exec_ld8 (x r : R8) (h : ¬(x = .atHl ∧ r = .atHl)) (s : State) :
    exec (Instr.ld8 x r) s = .next (s.copyR8 x r) := by
  cases x <;> cases r <;> first | rfl | exact absurd ⟨rfl, rfl⟩ h

@[simp] theorem exec_ld8Imm (r : R8) (v : Byte) (s : State) :
    exec (Instr.ld8Imm r v) s = .next (s.writeR8 r v) := by
  cases r <;> rfl

@[simp] theorem exec_inc8 (r : R8) (s : State) :
    exec (Instr.inc8 r) s = .next (s.incR8 r) := by
  cases r <;> rfl

@[simp] theorem exec_dec8 (r : R8) (s : State) :
    exec (Instr.dec8 r) s = .next (s.decR8 r) := by
  cases r <;> rfl

@[simp] theorem exec_ld16Imm (p : Rp) (v : Word) (s : State) :
    exec (Instr.ld16Imm p v) s = .next (s.setRp p v) := by
  cases p <;> rfl

@[simp] theorem exec_addHl (p : Rp) (s : State) :
    exec (Instr.addHl p) s = .next (s.addHlPair p) := by
  cases p <;> rfl

@[simp] theorem exec_inc16 (p : Rp) (s : State) :
    exec (Instr.inc16 p) s = .next (s.incPair p) := by
  cases p <;> rfl

@[simp] theorem exec_dec16 (p : Rp) (s : State) :
    exec (Instr.dec16 p) s = .next (s.decPair p) := by
  cases p <;> rfl

@[simp] theorem exec_storeInd (m : Ind) (s : State) :
    exec (Instr.storeInd m) s = .next (s.storeAInd m) := by
  cases m <;> rfl

@[simp] theorem exec_loadInd (m : Ind) (s : State) :
    exec (Instr.loadInd m) s = .next (s.loadAInd m) := by
  cases m <;> rfl

@[simp] theorem exec_alu8 (x : AluOp) (r : R8) (s : State) :
    exec (Instr.alu8 x r) s = .next (s.aluR8 x r) := by
  cases x <;> cases r <;> rfl

@[simp] theorem exec_alu8Imm (x : AluOp) (v : Byte) (s : State) :
    exec (Instr.alu8Imm x v) s = .next (s.alu8 x v) := by
  cases x <;> rfl

@[simp] theorem exec_push (p : Rp2) (s : State) :
    exec (Instr.push p) s = .next (s.pushPair p) := by
  cases p <;> rfl

@[simp] theorem exec_pop (p : Rp2) (s : State) :
    exec (Instr.pop p) s = .next (s.popPair p) := by
  cases p <;> rfl

@[simp] theorem exec_jrCc (q : Cond) (v : Byte) (s : State) :
    exec (Instr.jrCc q v) s = .next (s.jumpRelativeIf q v) := by
  cases q <;> rfl

@[simp] theorem exec_jpCc (q : Cond) (v : Word) (s : State) :
    exec (Instr.jpCc q v) s = .next (s.jumpIf q v) := by
  cases q <;> rfl

@[simp] theorem exec_callCc (q : Cond) (v : Word) (s : State) :
    exec (Instr.callCc q v) s = .next (s.callIf q v) := by
  cases q <;> rfl

@[simp] theorem exec_retCc (q : Cond) (s : State) :
    exec (Instr.retCc q) s = .next (s.retIf q) := by
  cases q <;> rfl

@[simp] theorem exec_rst (n : Nat) (h : n < 8) (s : State) :
    exec (Instr.rst n) s = .next (s.restart (BitVec.ofNat 16 (n * 8))) := by
  interval_cases n <;> rfl

@[simp] theorem exec_rot (x : RotOp) (r : R8) (s : State) :
    exec (Instr.rot x r) s = .next (s.rotOp x r) := by
  cases x <;> cases r <;> rfl

@[simp] theorem exec_bit (n : Nat) (r : R8) (h : n < 8) (s : State) :
    exec (Instr.bit n r) s = .next (s.bitOp n r) := by
  interval_cases n <;> cases r <;> rfl

@[simp] theorem exec_res (n : Nat) (r : R8) (h : n < 8) (s : State) :
    exec (Instr.res n r) s = .next (s.resOp n r) := by
  interval_cases n <;> cases r <;> rfl

@[simp] theorem exec_set (n : Nat) (r : R8) (h : n < 8) (s : State) :
    exec (Instr.set n r) s = .next (s.setOp n r) := by
  interval_cases n <;> cases r <;> rfl

@[simp] theorem exec_nop (s : State) : exec .nop s = .next s := rfl
@[simp] theorem exec_rlca (s : State) : exec .rlca s = .next (s.accept (Alu.accRotate (Alu.rlc s.a))) := rfl
@[simp] theorem exec_ldAtA16Sp (a : Word) (s : State) : exec (.ldAtA16Sp a) s = .next (s.storeSp a) := rfl
@[simp] theorem exec_rrca (s : State) : exec .rrca s = .next (s.accept (Alu.accRotate (Alu.rrc s.a))) := rfl
@[simp] theorem exec_stop (s : State) : exec .stop s = .next (s.setRun .stopped) := rfl
@[simp] theorem exec_rla (s : State) : exec .rla s = .next (s.accept (Alu.accRotate (Alu.rl s.a s.flagC))) := rfl
@[simp] theorem exec_jrE8 (e : Byte) (s : State) : exec (.jrE8 e) s = .next (s.jumpRelative e) := rfl
@[simp] theorem exec_rra (s : State) : exec .rra s = .next (s.accept (Alu.accRotate (Alu.rr s.a s.flagC))) := rfl
@[simp] theorem exec_daa (s : State) : exec .daa s = .next (s.accept (Alu.daa s.a s.flagN s.flagH s.flagC)) := rfl
@[simp] theorem exec_cpl (s : State) : exec .cpl s = .next (s.accept (Alu.cpl s.a)) := rfl
@[simp] theorem exec_scf (s : State) : exec .scf s = .next (s.applyFlags Alu.scf) := rfl
@[simp] theorem exec_ccf (s : State) : exec .ccf s = .next (s.applyFlags (Alu.ccf s.flagC)) := rfl
@[simp] theorem exec_halt (s : State) : exec .halt s = .next (s.haltWith Config.haltBug) := rfl
@[simp] theorem exec_jpA16 (a : Word) (s : State) : exec (.jpA16 a) s = .next (s.jump a) := rfl
@[simp] theorem exec_ret (s : State) : exec .ret s = .next (s.ret) := rfl
@[simp] theorem exec_prefixCb (s : State) : exec .prefixCb s = .next (s.selectPrefixed) := rfl
@[simp] theorem exec_callA16 (a : Word) (s : State) : exec (.callA16 a) s = .next (s.call a) := rfl
@[simp] theorem exec_illegal (op : Byte) (s : State) : exec (.illegal op) s = .next (s.lockup) := rfl
@[simp] theorem exec_reti (s : State) : exec .reti s = .next (s.reti) := rfl
@[simp] theorem exec_ldhAtA8A (a : Byte) (s : State) : exec (.ldhAtA8A a) s = .next (s.memWrite (highPage a) s.a) := rfl
@[simp] theorem exec_ldAtCA (s : State) : exec .ldAtCA s = .next (s.memWrite (highPage s.c) s.a) := rfl
@[simp] theorem exec_addSpE8 (e : Byte) (s : State) : exec (.addSpE8 e) s = .next (s.addSp e) := rfl
@[simp] theorem exec_jpHl (s : State) : exec .jpHl s = .next (s.setPc s.hl) := rfl
@[simp] theorem exec_ldAtA16A (a : Word) (s : State) : exec (.ldAtA16A a) s = .next (s.memWrite a s.a) := rfl
@[simp] theorem exec_ldhAAtA8 (a : Byte) (s : State) : exec (.ldhAAtA8 a) s = .next (s.loadA (highPage a)) := rfl
@[simp] theorem exec_ldAAtC (s : State) : exec .ldAAtC s = .next (s.loadA (highPage s.c)) := rfl
@[simp] theorem exec_di (s : State) : exec .di s = .next (s.disableInterrupts) := rfl
@[simp] theorem exec_ldHlSpE8 (e : Byte) (s : State) : exec (.ldHlSpE8 e) s = .next (s.loadHlSpPlus e) := rfl
@[simp] theorem exec_ldSpHl (s : State) : exec .ldSpHl s = .next ((s.setSp s.hl).idle) := rfl
@[simp] theorem exec_ldAAtA16 (a : Word) (s : State) : exec (.ldAAtA16 a) s = .next (s.loadA a) := rfl
@[simp] theorem exec_ei (s : State) : exec .ei s = .next (s.setEiPending true) := rfl

end Sys2Proof.Machine
end

