-- ==== Sys2Proof/Laws/Operands.lean ====
section
/-! SUPPORT. Operand access and flags: what a read, a write and an applied changeset do, said once (R131, R181 to R183). -/

namespace Sys2Proof.Machine

@[simp] theorem regs_a (s : State) : s.regs.a = s.a := rfl
@[simp] theorem regs_f (s : State) : s.regs.f = s.f := rfl
@[simp] theorem regs_b (s : State) : s.regs.b = s.b := rfl
@[simp] theorem regs_c (s : State) : s.regs.c = s.c := rfl
@[simp] theorem regs_d (s : State) : s.regs.d = s.d := rfl
@[simp] theorem regs_e (s : State) : s.regs.e = s.e := rfl
@[simp] theorem regs_h (s : State) : s.regs.h = s.h := rfl
@[simp] theorem regs_l (s : State) : s.regs.l = s.l := rfl
@[simp] theorem regs_sp (s : State) : s.regs.sp = s.sp := rfl
@[simp] theorem regs_pc (s : State) : s.regs.pc = s.pc := rfl
@[simp] theorem regs_ir (s : State) : s.regs.ir = s.ir := rfl
@[simp] theorem regs_ime (s : State) : s.regs.ime = s.ime := rfl
@[simp] theorem regs_eiPending (s : State) : s.regs.eiPending = s.eiPending := rfl
@[simp] theorem regs_run (s : State) : s.regs.run = s.run := rfl

/-! ### The machine cycle changes no register -/

@[simp] theorem cycle_regs (s : State) (k : BusCycle) : (s.cycle k).regs = s.regs := by simp [State.regs]
@[simp] theorem idle_regs (s : State) : s.idle.regs = s.regs := by simp [State.regs]
@[simp] theorem memWrite_regs (s : State) (a : Word) (v : Byte) : (s.memWrite a v).regs = s.regs := by simp [State.regs]
@[simp] theorem sideWrite_regs (s : State) (a : Word) (v : Byte) : (s.sideWrite a v).regs = s.regs := by simp [State.regs]

/-! ### 8-bit operands -/

@[simp] theorem readR8_fst (s : State) (r : R8) : (s.readR8 r).1 = s.operand r := by cases r <;> rfl

@[simp] theorem readR8_regs (s : State) (r : R8) : (s.readR8 r).2.regs = s.regs := by
  cases r <;> first | rfl | exact cycle_regs _ _

theorem emits_readR8 {s : State} (h : s.NoReset) (r : R8) : Emits s (s.readR8 r).2 (s.operandRead r) := by
  cases r
  case atHl => exact emits_memRead h s.hl
  all_goals exact .none rfl rfl rfl rfl

@[simp] theorem writeR8_regs (s : State) (r : R8) (v : Byte) : (s.writeR8 r v).regs = s.regs.withR8 r v := by
  cases r <;> first | rfl | exact memWrite_regs _ _ _

theorem emits_writeR8 {s : State} (h : s.NoReset) (r : R8) (v : Byte) :
    Emits s (s.writeR8 r v) (s.operandWrite r v) := by
  cases r
  case atHl => exact emits_memWrite h s.hl v
  all_goals exact .none rfl rfl rfl rfl

/-- Where a write goes depends on HL alone. -/
theorem operandWrite_congr {s t : State} (hl : t.hl = s.hl) (r : R8) (v : Byte) :
    t.operandWrite r v = s.operandWrite r v := by
  cases r <;> simp [State.operandWrite, hl]

theorem hl_of_regs {s t : State} (h : t.regs = s.regs) : t.hl = s.hl := by
  have h1 : t.h = s.h := congrArg Regs.h h
  have h2 : t.l = s.l := congrArg Regs.l h
  rw [State.hl, State.hl, h1, h2]

/-! ### Pairs -/

@[simp] theorem getRp_regs (s : State) (p : Rp) : s.getRp p = s.regs.rp p := by cases p <;> rfl
@[simp] theorem getRp2_regs (s : State) (p : Rp2) : s.getRp2 p = s.regs.rp2 p := by cases p <;> rfl

@[simp] theorem setRp_regs (s : State) (p : Rp) (v : Word) :
    (s.setRp p v).regs = s.regs.withRp p (hiByte v) (loByte v) := by
  cases p
  case sp => exact congrArg (fun w => { s.regs with sp := w }) (pair_halves v).symm
  all_goals rfl

@[simp] theorem setRp2_regs (s : State) (p : Rp2) (v : Word) :
    (s.setRp2 p v).regs = s.regs.withRp2 p (hiByte v) (loByte v) := by cases p <;> rfl

theorem emits_setRp (s : State) (p : Rp) (v : Word) : Emits s (s.setRp p v) [] := by
  cases p <;> exact .none rfl rfl rfl rfl

theorem emits_setRp2 (s : State) (p : Rp2) (v : Word) : Emits s (s.setRp2 p v) [] := by
  cases p <;> exact .none rfl rfl rfl rfl

/-! ### Flags -/

@[simp] theorem applyFlags_regs (s : State) (ch : FlagChange) :
    (s.applyFlags ch).regs = { s.regs with f := ch.applyTo s.f &&& 0xF0#8 } := rfl

theorem emits_applyFlags (s : State) (ch : FlagChange) : Emits s (s.applyFlags ch) [] := .none rfl rfl rfl rfl

theorem putFlag_getLsbD (mask : Byte) (x : Option Bool) (f : Byte) (i : Nat) (hi : i < 8) :
    (putFlag mask x f).getLsbD i = if mask.getLsbD i then x.getD (f.getLsbD i) else f.getLsbD i := by
  rcases x with _ | _ | _
  · simp only [putFlag, Option.getD_none, ite_self]
  · simp only [putFlag, Option.getD_some, BitVec.getLsbD_and, BitVec.getLsbD_not, hi, decide_true, Bool.true_and]
    cases mask.getLsbD i <;> simp
  · simp only [putFlag, Option.getD_some, BitVec.getLsbD_or]
    cases mask.getLsbD i <;> simp

/-- F after a changeset: each flag is the changeset's entry, or what it was; bits 3:0 are 0 (R131, R28). -/
theorem applyTo_flagByte (ch : FlagChange) (f : Byte) :
    ch.applyTo f &&& 0xF0#8 =
      flagByte (ch.z.getD (f.getLsbD 7)) (ch.n.getD (f.getLsbD 6)) (ch.h.getD (f.getLsbD 5))
        (ch.c.getD (f.getLsbD 4)) := by
  obtain ⟨z, n, h, c⟩ := ch
  have key : ∀ f : Byte, f &&& 0xF0#8 = flagByte (f.getLsbD 7) (f.getLsbD 6) (f.getLsbD 5) (f.getLsbD 4) := by decide
  rw [key]
  simp only [FlagChange.applyTo, putFlag_getLsbD, show 7 < 8 by decide, show 6 < 8 by decide, show 5 < 8 by decide,
    show 4 < 8 by decide]
  rfl

/-! ### The accumulator -/

theorem accept_regs (s : State) (r : Byte × FlagChange) :
    (s.accept r).regs = { s.regs with a := r.1, f := r.2.applyTo s.f &&& 0xF0#8 } := rfl

theorem alu8_regs (s : State) (op : AluOp) (v : Byte) (h : op ≠ .cp) :
    (s.alu8 op v).regs =
      { s.regs with a := (s.aluResult op v).1, f := (s.aluResult op v).2.applyTo s.f &&& 0xF0#8 } := by
  cases op <;> first | rfl | exact absurd rfl h

theorem alu8_cp_regs (s : State) (v : Byte) :
    (s.alu8 .cp v).regs = { s.regs with f := (Alu.sub s.a v).2.applyTo s.f &&& 0xF0#8 } := rfl

theorem emits_alu8 (s : State) (op : AluOp) (v : Byte) : Emits s (s.alu8 op v) [] := by
  cases op <;> exact .none rfl rfl rfl rfl

end Sys2Proof.Machine
end

