-- ==== Sys2Proof/Laws/Closed.lean ====
section
/-! SUPPORT. What every instruction is made of: a property of states that each primitive keeps is kept by every instruction, by
the fetch that ends it and by the step, so that no proof about all instructions unfolds a meaning. -/

namespace Sys2Proof.Machine

/-- `P` is kept by the primitives of the instructions that do not touch CORE's control state: the register updates and the
machine cycle. -/
structure Closed (P : State → Prop) : Prop where
  setA : ∀ (s : State) (v : Byte), P s → P (s.setA v)
  setF : ∀ (s : State) (v : Byte), P s → P (s.setF v)
  setB : ∀ (s : State) (v : Byte), P s → P (s.setB v)
  setC : ∀ (s : State) (v : Byte), P s → P (s.setC v)
  setD : ∀ (s : State) (v : Byte), P s → P (s.setD v)
  setE : ∀ (s : State) (v : Byte), P s → P (s.setE v)
  setH : ∀ (s : State) (v : Byte), P s → P (s.setH v)
  setL : ∀ (s : State) (v : Byte), P s → P (s.setL v)
  setSp : ∀ (s : State) (v : Word), P s → P (s.setSp v)
  setPc : ∀ (s : State) (v : Word), P s → P (s.setPc v)
  idle : ∀ s : State, P s → P s.idle
  memRead : ∀ (s : State) (a : Word), P s → P (s.memRead a).2
  memWrite : ∀ (s : State) (a : Word) (v : Byte), P s → P (s.memWrite a v)

/-- `P` is kept by the updates of CORE's control state as well. -/
structure ClosedLocal (P : State → Prop) : Prop extends Closed P where
  setIr : ∀ (s : State) (v : Byte), P s → P (s.setIr v)
  setIme : ∀ (s : State) (v : Bool), P s → P (s.setIme v)
  setEiPending : ∀ (s : State) (v : Bool), P s → P (s.setEiPending v)
  setRun : ∀ (s : State) (v : RunState), P s → P (s.setRun v)

/-- `P` is kept by the arbiter's write too, and so by every primitive there is. -/
structure ClosedControl (P : State → Prop) : Prop extends ClosedLocal P where
  sideWrite : ∀ (s : State) (a : Word) (v : Byte), P s → P (s.sideWrite a v)

namespace Closed

variable {P : State → Prop} (hP : Closed P) {s : State}
include hP

theorem imm8 (h : P s) : P s.imm8.2 := hP.setPc _ _ (hP.memRead _ _ h)
theorem applyFlags (ch : FlagChange) (h : P s) : P (s.applyFlags ch) := hP.setF _ _ h
theorem setBC (v : Word) (h : P s) : P (s.setBC v) := hP.setC _ _ (hP.setB _ _ h)
theorem setDE (v : Word) (h : P s) : P (s.setDE v) := hP.setE _ _ (hP.setD _ _ h)
theorem setHL (v : Word) (h : P s) : P (s.setHL v) := hP.setL _ _ (hP.setH _ _ h)
theorem setAF (v : Word) (h : P s) : P (s.setAF v) := hP.setF _ _ (hP.setA _ _ h)

theorem push16 (v : Word) (h : P s) : P (s.push16 v) :=
  hP.memWrite _ _ _ (hP.setSp _ _ (hP.memWrite _ _ _ (hP.setSp _ _ h)))

theorem pop16 (h : P s) : P s.pop16.2 := hP.setSp _ _ (hP.memRead _ _ (hP.setSp _ _ (hP.memRead _ _ h)))

theorem readR8 (r : R8) (h : P s) : P (s.readR8 r).2 := by
  cases r
  case atHl => exact hP.memRead _ _ h
  all_goals exact h

theorem writeR8 (r : R8) (v : Byte) (h : P s) : P (s.writeR8 r v) := by
  cases r
  case b => exact hP.setB _ _ h
  case c => exact hP.setC _ _ h
  case d => exact hP.setD _ _ h
  case e => exact hP.setE _ _ h
  case h => exact hP.setH _ _ h
  case l => exact hP.setL _ _ h
  case atHl => exact hP.memWrite _ _ _ h
  case a => exact hP.setA _ _ h

theorem setRp (p : Rp) (v : Word) (h : P s) : P (s.setRp p v) := by
  cases p
  case bc => exact hP.setBC _ h
  case de => exact hP.setDE _ h
  case hl => exact hP.setHL _ h
  case sp => exact hP.setSp _ _ h

theorem setRp2 (p : Rp2) (v : Word) (h : P s) : P (s.setRp2 p v) := by
  cases p
  case bc => exact hP.setBC _ h
  case de => exact hP.setDE _ h
  case hl => exact hP.setHL _ h
  case af => exact hP.setAF _ h

theorem indUpdate (m : Ind) (h : P s) : P (s.indUpdate m) := by
  cases m
  case bc => exact h
  case de => exact h
  case hlInc => exact hP.setHL _ h
  case hlDec => exact hP.setHL _ h

theorem accept (r : Byte × FlagChange) (h : P s) : P (s.accept r) := hP.applyFlags _ (hP.setA _ _ h)
theorem loadA (a : Word) (h : P s) : P (s.loadA a) := hP.setA _ _ (hP.memRead _ _ h)

theorem alu8 (op : AluOp) (v : Byte) (h : P s) : P (s.alu8 op v) := by
  cases op
  case cp => exact hP.applyFlags _ h
  all_goals exact hP.accept _ h

theorem jump (a : Word) (h : P s) : P (s.jump a) := hP.idle _ (hP.setPc _ _ h)
theorem call (a : Word) (h : P s) : P (s.call a) := hP.setPc _ _ (hP.push16 _ (hP.idle _ h))
theorem ret (h : P s) : P s.ret := hP.idle _ (hP.setPc _ _ (hP.pop16 h))

end Closed

/-- Every instruction is one of the few that touch CORE's control state, or keeps whatever the plain primitives keep. -/
theorem exec_closed (i : Instr) :
    i ∈ [.di, .ei, .reti, .halt, .stop, .prefixCb] ∨ (∃ op, i = .illegal op) ∨
      ∀ (P : State → Prop), Closed P → ∀ s, P s → ∃ t, exec i s = .next t ∧ P t := by
  rcases i.shape with ⟨x, r, h⟩ | _ | _ | _ | _ | _ | _ | _ | _ | _ | _ | _ | _ | _ | _ | _ | _ | _ | ⟨n, h⟩ | _ |
    ⟨n, r, h⟩ | ⟨n, r, h⟩ | ⟨n, r, h⟩ | _ | _ | _ | _ | _ | _ | _ | _ | _ | _ | _ | _ | _ | _ | _ | _ | _ | _ | _ | _ | _ |
    _ | _ | _ | _ | _ | _ | _ | _ | _ | _
  case stop => exact .inl (by simp)
  case halt => exact .inl (by simp)
  case prefixCb => exact .inl (by simp)
  case reti => exact .inl (by simp)
  case di => exact .inl (by simp)
  case ei => exact .inl (by simp)
  case illegal op => exact .inr (.inl ⟨op, rfl⟩)
  all_goals refine .inr (.inr fun P hP s hs => ?_)
  case ld8 => exact ⟨_, exec_ld8 x r h s, hP.writeR8 _ _ (hP.readR8 _ hs)⟩
  case ld8Imm r v => exact ⟨_, exec_ld8Imm r v s, hP.writeR8 _ _ hs⟩
  case inc8 r => exact ⟨_, exec_inc8 r s, hP.writeR8 _ _ (hP.applyFlags _ (hP.readR8 _ hs))⟩
  case dec8 r => exact ⟨_, exec_dec8 r s, hP.writeR8 _ _ (hP.applyFlags _ (hP.readR8 _ hs))⟩
  case ld16Imm p v => exact ⟨_, exec_ld16Imm p v s, hP.setRp _ _ hs⟩
  case addHl p => exact ⟨_, exec_addHl p s, hP.idle _ (hP.applyFlags _ (hP.setHL _ hs))⟩
  case inc16 p => exact ⟨_, exec_inc16 p s, hP.idle _ (hP.setRp _ _ hs)⟩
  case dec16 p => exact ⟨_, exec_dec16 p s, hP.idle _ (hP.setRp _ _ hs)⟩
  case storeInd m => exact ⟨_, exec_storeInd m s, hP.indUpdate _ (hP.memWrite _ _ _ hs)⟩
  case loadInd m => exact ⟨_, exec_loadInd m s, hP.indUpdate _ (hP.loadA _ hs)⟩
  case alu8 x r => exact ⟨_, exec_alu8 x r s, hP.alu8 _ _ (hP.readR8 _ hs)⟩
  case alu8Imm x v => exact ⟨_, exec_alu8Imm x v s, hP.alu8 _ _ hs⟩
  case push p => exact ⟨_, exec_push p s, hP.push16 _ (hP.idle _ hs)⟩
  case pop p => exact ⟨_, exec_pop p s, hP.setRp2 _ _ (hP.pop16 hs)⟩
  case jrCc q v =>
    refine ⟨_, exec_jrCc q v s, ?_⟩
    unfold State.jumpRelativeIf; split
    · exact hP.jump _ hs
    · exact hs
  case jpCc q v =>
    refine ⟨_, exec_jpCc q v s, ?_⟩
    unfold State.jumpIf; split
    · exact hP.jump _ hs
    · exact hs
  case callCc q v =>
    refine ⟨_, exec_callCc q v s, ?_⟩
    unfold State.callIf; split
    · exact hP.call _ hs
    · exact hs
  case retCc q =>
    refine ⟨_, exec_retCc q s, ?_⟩
    unfold State.retIf; split
    · exact hP.ret (hP.idle _ hs)
    · exact hP.idle _ hs
  case rst => exact ⟨_, exec_rst n h s, hP.call _ hs⟩
  case rot x r => exact ⟨_, exec_rot x r s, hP.applyFlags _ (hP.writeR8 _ _ (hP.readR8 _ hs))⟩
  case bit => exact ⟨_, exec_bit n r h s, hP.applyFlags _ (hP.readR8 _ hs)⟩
  case res => exact ⟨_, exec_res n r h s, hP.writeR8 _ _ (hP.readR8 _ hs)⟩
  case set => exact ⟨_, exec_set n r h s, hP.writeR8 _ _ (hP.readR8 _ hs)⟩
  case nop => exact ⟨_, rfl, hs⟩
  case rlca => exact ⟨_, rfl, hP.accept _ hs⟩
  case ldAtA16Sp a => exact ⟨_, rfl, hP.memWrite _ _ _ (hP.memWrite _ _ _ hs)⟩
  case rrca => exact ⟨_, rfl, hP.accept _ hs⟩
  case rla => exact ⟨_, rfl, hP.accept _ hs⟩
  case jrE8 e => exact ⟨_, rfl, hP.jump _ hs⟩
  case rra => exact ⟨_, rfl, hP.accept _ hs⟩
  case daa => exact ⟨_, rfl, hP.accept _ hs⟩
  case cpl => exact ⟨_, rfl, hP.accept _ hs⟩
  case scf => exact ⟨_, rfl, hP.applyFlags _ hs⟩
  case ccf => exact ⟨_, rfl, hP.applyFlags _ hs⟩
  case jpA16 a => exact ⟨_, rfl, hP.jump _ hs⟩
  case ret => exact ⟨_, rfl, hP.ret hs⟩
  case callA16 a => exact ⟨_, rfl, hP.call _ hs⟩
  case ldhAtA8A a => exact ⟨_, rfl, hP.memWrite _ _ _ hs⟩
  case ldAtCA => exact ⟨_, rfl, hP.memWrite _ _ _ hs⟩
  case addSpE8 e => exact ⟨_, rfl, hP.idle _ (hP.idle _ (hP.applyFlags _ (hP.setSp _ _ hs)))⟩
  case jpHl => exact ⟨_, rfl, hP.setPc _ _ hs⟩
  case ldAtA16A a => exact ⟨_, rfl, hP.memWrite _ _ _ hs⟩
  case ldhAAtA8 a => exact ⟨_, rfl, hP.loadA _ hs⟩
  case ldAAtC => exact ⟨_, rfl, hP.loadA _ hs⟩
  case ldHlSpE8 e => exact ⟨_, rfl, hP.idle _ (hP.applyFlags _ (hP.setHL _ hs))⟩
  case ldSpHl => exact ⟨_, rfl, hP.idle _ (hP.setSp _ _ hs)⟩
  case ldAAtA16 a => exact ⟨_, rfl, hP.loadA _ hs⟩

namespace ClosedLocal

variable {P : State → Prop} (hP : ClosedLocal P) {s : State}
include hP

theorem fetchOpcode (h : P s) : P s.fetchOpcode := hP.setPc _ _ (hP.setIr _ _ (hP.memRead _ _ h))

theorem commitEi (h : P s) : P s.commitEi := by
  unfold State.commitEi
  split
  · exact hP.setEiPending _ _ (hP.setIme _ _ h)
  · exact h

theorem reti (h : P s) : P s.reti := hP.idle _ (hP.setEiPending _ _ (hP.setIme _ _ (hP.setPc _ _ (hP.pop16 h))))

theorem fetchInstr (h : P s) : P s.fetchInstr.2 := by
  unfold State.fetchInstr
  split
  · exact h
  · exact hP.imm8 h
  · exact hP.imm8 (hP.imm8 h)

end ClosedLocal

/-- Every instruction but HALT answers a next state, and keeps whatever all the primitives but the arbiter's write keep. -/
theorem exec_closedLocal {P : State → Prop} (hP : ClosedLocal P) {i : Instr} (hi : i ≠ .halt) {s : State} (h : P s) :
    ∃ t, exec i s = .next t ∧ P t := by
  rcases exec_closed i with hm | ⟨op, rfl⟩ | hc
  · simp only [List.mem_cons, List.not_mem_nil, or_false] at hm
    rcases hm with rfl | rfl | rfl | rfl | rfl | rfl
    · exact ⟨_, rfl, hP.setEiPending _ _ (hP.setIme _ _ h)⟩
    · exact ⟨_, rfl, hP.setEiPending _ _ h⟩
    · exact ⟨_, rfl, hP.reti h⟩
    · exact absurd rfl hi
    · exact ⟨_, rfl, hP.setRun _ _ h⟩
    · exact ⟨_, rfl, hP.setIr _ _ (hP.imm8 h)⟩
  · exact ⟨_, rfl, hP.setRun _ _ h⟩
  · exact hc P hP.toClosed s h

namespace ClosedControl

variable {P : State → Prop} (hP : ClosedControl P) {s t : State}
include hP

theorem acknowledge (n : Interrupt) (h : P s) : P (s.acknowledge n) := hP.sideWrite _ _ _ h

theorem dispatch (n : Interrupt) (h : P s) : P (s.dispatch n) :=
  hP.fetchOpcode (hP.setPc _ _ (hP.acknowledge n (hP.setEiPending _ _ (hP.setIme _ _
    (hP.push16 _ (hP.idle _ (hP.idle _ (hP.setPc _ _ h))))))))

theorem interruptCheck (h : P s) : P s.interruptCheck := by
  unfold State.interruptCheck
  split
  · exact hP.dispatch _ h
  · exact hP.commitEi h

theorem fetchNext (h : P s) : P s.fetchNext := hP.interruptCheck (hP.fetchOpcode h)

theorem haltWith (bug : Bool) (h : P s) : P (s.haltWith bug) := by
  unfold State.haltWith
  split
  · split
    · exact hP.interruptCheck (hP.setIr _ _ (hP.memRead _ _ h))
    · exact hP.fetchNext h
  · exact hP.setRun _ _ h

theorem stepHalted (h : P s) : P s.stepHalted := by
  unfold State.stepHalted
  split
  · exact hP.fetchNext (hP.setRun _ _ h)
  · exact hP.idle _ h

end ClosedControl

/-- Every instruction answers a next state, and keeps whatever all the primitives keep. -/
theorem exec_closedControl {P : State → Prop} (hP : ClosedControl P) (i : Instr) {s : State} (h : P s) :
    ∃ t, exec i s = .next t ∧ P t := by
  by_cases hi : i = .halt
  · subst hi
    exact ⟨_, rfl, hP.haltWith _ h⟩
  · exact exec_closedLocal hP.toClosedLocal hi h

/-- Every Running step answers a next state: one that the primitives reach, at the end of the step (`State.settle`). -/
theorem stepRunning_closed {P : State → Prop} (hP : ClosedControl P) {s : State} (h : P s) :
    ∃ t, stepRunning s = .next t.settle ∧ P t := by
  have hpost : ∀ (i : Instr) {u : State}, P u → ∃ t, u.postFetch i = t.settle ∧ P t := fun i u hu => by
    unfold State.postFetch
    split
    · exact ⟨_, rfl, hu⟩
    · exact ⟨_, rfl, hP.fetchNext hu⟩
  obtain ⟨u, hu, hPu⟩ := exec_closedControl hP s.fetchInstr.1 (hP.fetchInstr h)
  unfold stepRunning
  simp only [hu]
  split
  · obtain ⟨w, hw, hPw⟩ := exec_closedControl hP (decodePrefixed u.ir) hPu
    obtain ⟨t, ht, hPt⟩ := hpost (decodePrefixed u.ir) hPw
    simp only [hw]
    exact ⟨t, by rw [ht], hPt⟩
  · obtain ⟨t, ht, hPt⟩ := hpost s.fetchInstr.1 hPu
    exact ⟨t, by rw [ht], hPt⟩

/-- No primitive asserts a reset that the script does not. -/
theorem noReset_closed : ClosedControl State.NoReset where
  setA _ _ h := h
  setF _ _ h := h
  setB _ _ h := h
  setC _ _ h := h
  setD _ _ h := h
  setE _ _ h := h
  setH _ _ h := h
  setL _ _ h := h
  setSp _ _ h := h
  setPc _ _ h := h
  idle _ h := (emits_idle h).noReset h
  memRead _ a h := (emits_memRead h a).noReset h
  memWrite s a v h := (emits_memWrite h a v).noReset h
  setIr _ _ h := h
  setIme _ _ h := h
  setEiPending _ _ h := h
  setRun _ _ h := h
  sideWrite s a v h := by
    rw [State.sideWrite, h.1]
    exact h

/-- Without a reset the end of a step changes nothing. -/
theorem settle_noReset {s : State} (h : s.NoReset) : s.settle = s := by
  rw [State.settle, h.1]
  rfl

end Sys2Proof.Machine
end

