-- ==== Sys2Proof/Laws/PerInstr.lean ====
section
/-! SUPPORT. The length of every encoding is the length that its first byte gives (spec/30_encoding.md R90, R102), instruction
by instruction; the row PREFIX CB is one byte of an instruction of two (R93). -/

namespace Sys2Proof.Laws.EncodedLength

/-- The encoding has the length that R102 gives its first byte. -/
def Statement (i : Instr) : Prop :=
  i ≠ .prefixCb → ∀ op rest, encode i = op :: rest → i.wellFormed = true → (encode i).length = lengthOf op

theorem of_head {i : Instr} {op : Byte} {rest : List Byte} (he : encode i = op :: rest)
    (hl : (op :: rest).length = lengthOf op) : Statement i := by
  intro _ op' rest' h _
  rw [he] at h ⊢
  cases h
  exact hl

theorem nop : Statement .nop := of_head rfl rfl
theorem ldBcD16 (v : Word) : Statement (.ldBcD16 v) := of_head rfl rfl
theorem ldAtBcA : Statement .ldAtBcA := of_head rfl rfl
theorem incBc : Statement .incBc := of_head rfl rfl
theorem incB : Statement .incB := of_head rfl rfl
theorem decB : Statement .decB := of_head rfl rfl
theorem ldBD8 (v : Byte) : Statement (.ldBD8 v) := of_head rfl rfl
theorem rlca : Statement .rlca := of_head rfl rfl
theorem ldAtA16Sp (a : Word) : Statement (.ldAtA16Sp a) := of_head rfl rfl
theorem addHlBc : Statement .addHlBc := of_head rfl rfl
theorem ldAAtBc : Statement .ldAAtBc := of_head rfl rfl
theorem decBc : Statement .decBc := of_head rfl rfl
theorem incC : Statement .incC := of_head rfl rfl
theorem decC : Statement .decC := of_head rfl rfl
theorem ldCD8 (v : Byte) : Statement (.ldCD8 v) := of_head rfl rfl
theorem rrca : Statement .rrca := of_head rfl rfl
theorem stop : Statement .stop := of_head rfl rfl
theorem ldDeD16 (v : Word) : Statement (.ldDeD16 v) := of_head rfl rfl
theorem ldAtDeA : Statement .ldAtDeA := of_head rfl rfl
theorem incDe : Statement .incDe := of_head rfl rfl
theorem incD : Statement .incD := of_head rfl rfl
theorem decD : Statement .decD := of_head rfl rfl
theorem ldDD8 (v : Byte) : Statement (.ldDD8 v) := of_head rfl rfl
theorem rla : Statement .rla := of_head rfl rfl
theorem jrE8 (e : Byte) : Statement (.jrE8 e) := of_head rfl rfl
theorem addHlDe : Statement .addHlDe := of_head rfl rfl
theorem ldAAtDe : Statement .ldAAtDe := of_head rfl rfl
theorem decDe : Statement .decDe := of_head rfl rfl
theorem incE : Statement .incE := of_head rfl rfl
theorem decE : Statement .decE := of_head rfl rfl
theorem ldED8 (v : Byte) : Statement (.ldED8 v) := of_head rfl rfl
theorem rra : Statement .rra := of_head rfl rfl
theorem jrNzE8 (e : Byte) : Statement (.jrNzE8 e) := of_head rfl rfl
theorem ldHlD16 (v : Word) : Statement (.ldHlD16 v) := of_head rfl rfl
theorem ldAtHlIncA : Statement .ldAtHlIncA := of_head rfl rfl
theorem incHl : Statement .incHl := of_head rfl rfl
theorem incH : Statement .incH := of_head rfl rfl
theorem decH : Statement .decH := of_head rfl rfl
theorem ldHD8 (v : Byte) : Statement (.ldHD8 v) := of_head rfl rfl
theorem daa : Statement .daa := of_head rfl rfl
theorem jrZE8 (e : Byte) : Statement (.jrZE8 e) := of_head rfl rfl
theorem addHlHl : Statement .addHlHl := of_head rfl rfl
theorem ldAAtHlInc : Statement .ldAAtHlInc := of_head rfl rfl
theorem decHl : Statement .decHl := of_head rfl rfl
theorem incL : Statement .incL := of_head rfl rfl
theorem decL : Statement .decL := of_head rfl rfl
theorem ldLD8 (v : Byte) : Statement (.ldLD8 v) := of_head rfl rfl
theorem cpl : Statement .cpl := of_head rfl rfl
theorem jrNcE8 (e : Byte) : Statement (.jrNcE8 e) := of_head rfl rfl
theorem ldSpD16 (v : Word) : Statement (.ldSpD16 v) := of_head rfl rfl
theorem ldAtHlDecA : Statement .ldAtHlDecA := of_head rfl rfl
theorem incSp : Statement .incSp := of_head rfl rfl
theorem incAtHl : Statement .incAtHl := of_head rfl rfl
theorem decAtHl : Statement .decAtHl := of_head rfl rfl
theorem ldAtHlD8 (v : Byte) : Statement (.ldAtHlD8 v) := of_head rfl rfl
theorem scf : Statement .scf := of_head rfl rfl
theorem jrCE8 (e : Byte) : Statement (.jrCE8 e) := of_head rfl rfl
theorem addHlSp : Statement .addHlSp := of_head rfl rfl
theorem ldAAtHlDec : Statement .ldAAtHlDec := of_head rfl rfl
theorem decSp : Statement .decSp := of_head rfl rfl
theorem incA : Statement .incA := of_head rfl rfl
theorem decA : Statement .decA := of_head rfl rfl
theorem ldAD8 (v : Byte) : Statement (.ldAD8 v) := of_head rfl rfl
theorem ccf : Statement .ccf := of_head rfl rfl
theorem ldBB : Statement .ldBB := of_head rfl rfl
theorem ldBC : Statement .ldBC := of_head rfl rfl
theorem ldBD : Statement .ldBD := of_head rfl rfl
theorem ldBE : Statement .ldBE := of_head rfl rfl
theorem ldBH : Statement .ldBH := of_head rfl rfl
theorem ldBL : Statement .ldBL := of_head rfl rfl
theorem ldBAtHl : Statement .ldBAtHl := of_head rfl rfl
theorem ldBA : Statement .ldBA := of_head rfl rfl
theorem ldCB : Statement .ldCB := of_head rfl rfl
theorem ldCC : Statement .ldCC := of_head rfl rfl
theorem ldCD : Statement .ldCD := of_head rfl rfl
theorem ldCE : Statement .ldCE := of_head rfl rfl
theorem ldCH : Statement .ldCH := of_head rfl rfl
theorem ldCL : Statement .ldCL := of_head rfl rfl
theorem ldCAtHl : Statement .ldCAtHl := of_head rfl rfl
theorem ldCA : Statement .ldCA := of_head rfl rfl
theorem ldDB : Statement .ldDB := of_head rfl rfl
theorem ldDC : Statement .ldDC := of_head rfl rfl
theorem ldDD : Statement .ldDD := of_head rfl rfl
theorem ldDE : Statement .ldDE := of_head rfl rfl
theorem ldDH : Statement .ldDH := of_head rfl rfl
theorem ldDL : Statement .ldDL := of_head rfl rfl
theorem ldDAtHl : Statement .ldDAtHl := of_head rfl rfl
theorem ldDA : Statement .ldDA := of_head rfl rfl
theorem ldEB : Statement .ldEB := of_head rfl rfl
theorem ldEC : Statement .ldEC := of_head rfl rfl
theorem ldED : Statement .ldED := of_head rfl rfl
theorem ldEE : Statement .ldEE := of_head rfl rfl
theorem ldEH : Statement .ldEH := of_head rfl rfl
theorem ldEL : Statement .ldEL := of_head rfl rfl
theorem ldEAtHl : Statement .ldEAtHl := of_head rfl rfl
theorem ldEA : Statement .ldEA := of_head rfl rfl
theorem ldHB : Statement .ldHB := of_head rfl rfl
theorem ldHC : Statement .ldHC := of_head rfl rfl
theorem ldHD : Statement .ldHD := of_head rfl rfl
theorem ldHE : Statement .ldHE := of_head rfl rfl
theorem ldHH : Statement .ldHH := of_head rfl rfl
theorem ldHL : Statement .ldHL := of_head rfl rfl
theorem ldHAtHl : Statement .ldHAtHl := of_head rfl rfl
theorem ldHA : Statement .ldHA := of_head rfl rfl
theorem ldLB : Statement .ldLB := of_head rfl rfl
theorem ldLC : Statement .ldLC := of_head rfl rfl
theorem ldLD : Statement .ldLD := of_head rfl rfl
theorem ldLE : Statement .ldLE := of_head rfl rfl
theorem ldLH : Statement .ldLH := of_head rfl rfl
theorem ldLL : Statement .ldLL := of_head rfl rfl
theorem ldLAtHl : Statement .ldLAtHl := of_head rfl rfl
theorem ldLA : Statement .ldLA := of_head rfl rfl
theorem ldAtHlB : Statement .ldAtHlB := of_head rfl rfl
theorem ldAtHlC : Statement .ldAtHlC := of_head rfl rfl
theorem ldAtHlD : Statement .ldAtHlD := of_head rfl rfl
theorem ldAtHlE : Statement .ldAtHlE := of_head rfl rfl
theorem ldAtHlH : Statement .ldAtHlH := of_head rfl rfl
theorem ldAtHlL : Statement .ldAtHlL := of_head rfl rfl
theorem halt : Statement .halt := of_head rfl rfl
theorem ldAtHlA : Statement .ldAtHlA := of_head rfl rfl
theorem ldAB : Statement .ldAB := of_head rfl rfl
theorem ldAC : Statement .ldAC := of_head rfl rfl
theorem ldAD : Statement .ldAD := of_head rfl rfl
theorem ldAE : Statement .ldAE := of_head rfl rfl
theorem ldAH : Statement .ldAH := of_head rfl rfl
theorem ldAL : Statement .ldAL := of_head rfl rfl
theorem ldAAtHl : Statement .ldAAtHl := of_head rfl rfl
theorem ldAA : Statement .ldAA := of_head rfl rfl
theorem addAB : Statement .addAB := of_head rfl rfl
theorem addAC : Statement .addAC := of_head rfl rfl
theorem addAD : Statement .addAD := of_head rfl rfl
theorem addAE : Statement .addAE := of_head rfl rfl
theorem addAH : Statement .addAH := of_head rfl rfl
theorem addAL : Statement .addAL := of_head rfl rfl
theorem addAAtHl : Statement .addAAtHl := of_head rfl rfl
theorem addAA : Statement .addAA := of_head rfl rfl
theorem adcAB : Statement .adcAB := of_head rfl rfl
theorem adcAC : Statement .adcAC := of_head rfl rfl
theorem adcAD : Statement .adcAD := of_head rfl rfl
theorem adcAE : Statement .adcAE := of_head rfl rfl
theorem adcAH : Statement .adcAH := of_head rfl rfl
theorem adcAL : Statement .adcAL := of_head rfl rfl
theorem adcAAtHl : Statement .adcAAtHl := of_head rfl rfl
theorem adcAA : Statement .adcAA := of_head rfl rfl
theorem subB : Statement .subB := of_head rfl rfl
theorem subC : Statement .subC := of_head rfl rfl
theorem subD : Statement .subD := of_head rfl rfl
theorem subE : Statement .subE := of_head rfl rfl
theorem subH : Statement .subH := of_head rfl rfl
theorem subL : Statement .subL := of_head rfl rfl
theorem subAtHl : Statement .subAtHl := of_head rfl rfl
theorem subA : Statement .subA := of_head rfl rfl
theorem sbcAB : Statement .sbcAB := of_head rfl rfl
theorem sbcAC : Statement .sbcAC := of_head rfl rfl
theorem sbcAD : Statement .sbcAD := of_head rfl rfl
theorem sbcAE : Statement .sbcAE := of_head rfl rfl
theorem sbcAH : Statement .sbcAH := of_head rfl rfl
theorem sbcAL : Statement .sbcAL := of_head rfl rfl
theorem sbcAAtHl : Statement .sbcAAtHl := of_head rfl rfl
theorem sbcAA : Statement .sbcAA := of_head rfl rfl
theorem andB : Statement .andB := of_head rfl rfl
theorem andC : Statement .andC := of_head rfl rfl
theorem andD : Statement .andD := of_head rfl rfl
theorem andE : Statement .andE := of_head rfl rfl
theorem andH : Statement .andH := of_head rfl rfl
theorem andL : Statement .andL := of_head rfl rfl
theorem andAtHl : Statement .andAtHl := of_head rfl rfl
theorem andA : Statement .andA := of_head rfl rfl
theorem xorB : Statement .xorB := of_head rfl rfl
theorem xorC : Statement .xorC := of_head rfl rfl
theorem xorD : Statement .xorD := of_head rfl rfl
theorem xorE : Statement .xorE := of_head rfl rfl
theorem xorH : Statement .xorH := of_head rfl rfl
theorem xorL : Statement .xorL := of_head rfl rfl
theorem xorAtHl : Statement .xorAtHl := of_head rfl rfl
theorem xorA : Statement .xorA := of_head rfl rfl
theorem orB : Statement .orB := of_head rfl rfl
theorem orC : Statement .orC := of_head rfl rfl
theorem orD : Statement .orD := of_head rfl rfl
theorem orE : Statement .orE := of_head rfl rfl
theorem orH : Statement .orH := of_head rfl rfl
theorem orL : Statement .orL := of_head rfl rfl
theorem orAtHl : Statement .orAtHl := of_head rfl rfl
theorem orA : Statement .orA := of_head rfl rfl
theorem cpB : Statement .cpB := of_head rfl rfl
theorem cpC : Statement .cpC := of_head rfl rfl
theorem cpD : Statement .cpD := of_head rfl rfl
theorem cpE : Statement .cpE := of_head rfl rfl
theorem cpH : Statement .cpH := of_head rfl rfl
theorem cpL : Statement .cpL := of_head rfl rfl
theorem cpAtHl : Statement .cpAtHl := of_head rfl rfl
theorem cpA : Statement .cpA := of_head rfl rfl
theorem retNz : Statement .retNz := of_head rfl rfl
theorem popBc : Statement .popBc := of_head rfl rfl
theorem jpNzA16 (a : Word) : Statement (.jpNzA16 a) := of_head rfl rfl
theorem jpA16 (a : Word) : Statement (.jpA16 a) := of_head rfl rfl
theorem callNzA16 (a : Word) : Statement (.callNzA16 a) := of_head rfl rfl
theorem pushBc : Statement .pushBc := of_head rfl rfl
theorem addAD8 (v : Byte) : Statement (.addAD8 v) := of_head rfl rfl
theorem rst00 : Statement .rst00 := of_head rfl rfl
theorem retZ : Statement .retZ := of_head rfl rfl
theorem ret : Statement .ret := of_head rfl rfl
theorem jpZA16 (a : Word) : Statement (.jpZA16 a) := of_head rfl rfl
theorem prefixCb : Statement .prefixCb := fun h => absurd rfl h
theorem callZA16 (a : Word) : Statement (.callZA16 a) := of_head rfl rfl
theorem callA16 (a : Word) : Statement (.callA16 a) := of_head rfl rfl
theorem adcAD8 (v : Byte) : Statement (.adcAD8 v) := of_head rfl rfl
theorem rst08 : Statement .rst08 := of_head rfl rfl
theorem retNc : Statement .retNc := of_head rfl rfl
theorem popDe : Statement .popDe := of_head rfl rfl
theorem jpNcA16 (a : Word) : Statement (.jpNcA16 a) := of_head rfl rfl
theorem illegal (op : Byte) : Statement (.illegal op) := by
  intro _ op' rest' h hw
  cases h
  simp only [Instr.wellFormed, List.contains_eq_mem, decide_eq_true_eq, illegalOpcodes] at hw
  revert op
  decide
theorem callNcA16 (a : Word) : Statement (.callNcA16 a) := of_head rfl rfl
theorem pushDe : Statement .pushDe := of_head rfl rfl
theorem subD8 (v : Byte) : Statement (.subD8 v) := of_head rfl rfl
theorem rst10 : Statement .rst10 := of_head rfl rfl
theorem retC : Statement .retC := of_head rfl rfl
theorem reti : Statement .reti := of_head rfl rfl
theorem jpCA16 (a : Word) : Statement (.jpCA16 a) := of_head rfl rfl
theorem callCA16 (a : Word) : Statement (.callCA16 a) := of_head rfl rfl
theorem sbcAD8 (v : Byte) : Statement (.sbcAD8 v) := of_head rfl rfl
theorem rst18 : Statement .rst18 := of_head rfl rfl
theorem ldhAtA8A (a : Byte) : Statement (.ldhAtA8A a) := of_head rfl rfl
theorem popHl : Statement .popHl := of_head rfl rfl
theorem ldAtCA : Statement .ldAtCA := of_head rfl rfl
theorem pushHl : Statement .pushHl := of_head rfl rfl
theorem andD8 (v : Byte) : Statement (.andD8 v) := of_head rfl rfl
theorem rst20 : Statement .rst20 := of_head rfl rfl
theorem addSpE8 (e : Byte) : Statement (.addSpE8 e) := of_head rfl rfl
theorem jpHl : Statement .jpHl := of_head rfl rfl
theorem ldAtA16A (a : Word) : Statement (.ldAtA16A a) := of_head rfl rfl
theorem xorD8 (v : Byte) : Statement (.xorD8 v) := of_head rfl rfl
theorem rst28 : Statement .rst28 := of_head rfl rfl
theorem ldhAAtA8 (a : Byte) : Statement (.ldhAAtA8 a) := of_head rfl rfl
theorem popAf : Statement .popAf := of_head rfl rfl
theorem ldAAtC : Statement .ldAAtC := of_head rfl rfl
theorem di : Statement .di := of_head rfl rfl
theorem pushAf : Statement .pushAf := of_head rfl rfl
theorem orD8 (v : Byte) : Statement (.orD8 v) := of_head rfl rfl
theorem rst30 : Statement .rst30 := of_head rfl rfl
theorem ldHlSpE8 (e : Byte) : Statement (.ldHlSpE8 e) := of_head rfl rfl
theorem ldSpHl : Statement .ldSpHl := of_head rfl rfl
theorem ldAAtA16 (a : Word) : Statement (.ldAAtA16 a) := of_head rfl rfl
theorem ei : Statement .ei := of_head rfl rfl
theorem cpD8 (v : Byte) : Statement (.cpD8 v) := of_head rfl rfl
theorem rst38 : Statement .rst38 := of_head rfl rfl
theorem rlcB : Statement .rlcB := of_head rfl rfl
theorem rlcC : Statement .rlcC := of_head rfl rfl
theorem rlcD : Statement .rlcD := of_head rfl rfl
theorem rlcE : Statement .rlcE := of_head rfl rfl
theorem rlcH : Statement .rlcH := of_head rfl rfl
theorem rlcL : Statement .rlcL := of_head rfl rfl
theorem rlcAtHl : Statement .rlcAtHl := of_head rfl rfl
theorem rlcA : Statement .rlcA := of_head rfl rfl
theorem rrcB : Statement .rrcB := of_head rfl rfl
theorem rrcC : Statement .rrcC := of_head rfl rfl
theorem rrcD : Statement .rrcD := of_head rfl rfl
theorem rrcE : Statement .rrcE := of_head rfl rfl
theorem rrcH : Statement .rrcH := of_head rfl rfl
theorem rrcL : Statement .rrcL := of_head rfl rfl
theorem rrcAtHl : Statement .rrcAtHl := of_head rfl rfl
theorem rrcA : Statement .rrcA := of_head rfl rfl
theorem rlB : Statement .rlB := of_head rfl rfl
theorem rlC : Statement .rlC := of_head rfl rfl
theorem rlD : Statement .rlD := of_head rfl rfl
theorem rlE : Statement .rlE := of_head rfl rfl
theorem rlH : Statement .rlH := of_head rfl rfl
theorem rlL : Statement .rlL := of_head rfl rfl
theorem rlAtHl : Statement .rlAtHl := of_head rfl rfl
theorem rlA : Statement .rlA := of_head rfl rfl
theorem rrB : Statement .rrB := of_head rfl rfl
theorem rrC : Statement .rrC := of_head rfl rfl
theorem rrD : Statement .rrD := of_head rfl rfl
theorem rrE : Statement .rrE := of_head rfl rfl
theorem rrH : Statement .rrH := of_head rfl rfl
theorem rrL : Statement .rrL := of_head rfl rfl
theorem rrAtHl : Statement .rrAtHl := of_head rfl rfl
theorem rrA : Statement .rrA := of_head rfl rfl
theorem slaB : Statement .slaB := of_head rfl rfl
theorem slaC : Statement .slaC := of_head rfl rfl
theorem slaD : Statement .slaD := of_head rfl rfl
theorem slaE : Statement .slaE := of_head rfl rfl
theorem slaH : Statement .slaH := of_head rfl rfl
theorem slaL : Statement .slaL := of_head rfl rfl
theorem slaAtHl : Statement .slaAtHl := of_head rfl rfl
theorem slaA : Statement .slaA := of_head rfl rfl
theorem sraB : Statement .sraB := of_head rfl rfl
theorem sraC : Statement .sraC := of_head rfl rfl
theorem sraD : Statement .sraD := of_head rfl rfl
theorem sraE : Statement .sraE := of_head rfl rfl
theorem sraH : Statement .sraH := of_head rfl rfl
theorem sraL : Statement .sraL := of_head rfl rfl
theorem sraAtHl : Statement .sraAtHl := of_head rfl rfl
theorem sraA : Statement .sraA := of_head rfl rfl
theorem swapB : Statement .swapB := of_head rfl rfl
theorem swapC : Statement .swapC := of_head rfl rfl
theorem swapD : Statement .swapD := of_head rfl rfl
theorem swapE : Statement .swapE := of_head rfl rfl
theorem swapH : Statement .swapH := of_head rfl rfl
theorem swapL : Statement .swapL := of_head rfl rfl
theorem swapAtHl : Statement .swapAtHl := of_head rfl rfl
theorem swapA : Statement .swapA := of_head rfl rfl
theorem srlB : Statement .srlB := of_head rfl rfl
theorem srlC : Statement .srlC := of_head rfl rfl
theorem srlD : Statement .srlD := of_head rfl rfl
theorem srlE : Statement .srlE := of_head rfl rfl
theorem srlH : Statement .srlH := of_head rfl rfl
theorem srlL : Statement .srlL := of_head rfl rfl
theorem srlAtHl : Statement .srlAtHl := of_head rfl rfl
theorem srlA : Statement .srlA := of_head rfl rfl
theorem bit0B : Statement .bit0B := of_head rfl rfl
theorem bit0C : Statement .bit0C := of_head rfl rfl
theorem bit0D : Statement .bit0D := of_head rfl rfl
theorem bit0E : Statement .bit0E := of_head rfl rfl
theorem bit0H : Statement .bit0H := of_head rfl rfl
theorem bit0L : Statement .bit0L := of_head rfl rfl
theorem bit0AtHl : Statement .bit0AtHl := of_head rfl rfl
theorem bit0A : Statement .bit0A := of_head rfl rfl
theorem bit1B : Statement .bit1B := of_head rfl rfl
theorem bit1C : Statement .bit1C := of_head rfl rfl
theorem bit1D : Statement .bit1D := of_head rfl rfl
theorem bit1E : Statement .bit1E := of_head rfl rfl
theorem bit1H : Statement .bit1H := of_head rfl rfl
theorem bit1L : Statement .bit1L := of_head rfl rfl
theorem bit1AtHl : Statement .bit1AtHl := of_head rfl rfl
theorem bit1A : Statement .bit1A := of_head rfl rfl
theorem bit2B : Statement .bit2B := of_head rfl rfl
theorem bit2C : Statement .bit2C := of_head rfl rfl
theorem bit2D : Statement .bit2D := of_head rfl rfl
theorem bit2E : Statement .bit2E := of_head rfl rfl
theorem bit2H : Statement .bit2H := of_head rfl rfl
theorem bit2L : Statement .bit2L := of_head rfl rfl
theorem bit2AtHl : Statement .bit2AtHl := of_head rfl rfl
theorem bit2A : Statement .bit2A := of_head rfl rfl
theorem bit3B : Statement .bit3B := of_head rfl rfl
theorem bit3C : Statement .bit3C := of_head rfl rfl
theorem bit3D : Statement .bit3D := of_head rfl rfl
theorem bit3E : Statement .bit3E := of_head rfl rfl
theorem bit3H : Statement .bit3H := of_head rfl rfl
theorem bit3L : Statement .bit3L := of_head rfl rfl
theorem bit3AtHl : Statement .bit3AtHl := of_head rfl rfl
theorem bit3A : Statement .bit3A := of_head rfl rfl
theorem bit4B : Statement .bit4B := of_head rfl rfl
theorem bit4C : Statement .bit4C := of_head rfl rfl
theorem bit4D : Statement .bit4D := of_head rfl rfl
theorem bit4E : Statement .bit4E := of_head rfl rfl
theorem bit4H : Statement .bit4H := of_head rfl rfl
theorem bit4L : Statement .bit4L := of_head rfl rfl
theorem bit4AtHl : Statement .bit4AtHl := of_head rfl rfl
theorem bit4A : Statement .bit4A := of_head rfl rfl
theorem bit5B : Statement .bit5B := of_head rfl rfl
theorem bit5C : Statement .bit5C := of_head rfl rfl
theorem bit5D : Statement .bit5D := of_head rfl rfl
theorem bit5E : Statement .bit5E := of_head rfl rfl
theorem bit5H : Statement .bit5H := of_head rfl rfl
theorem bit5L : Statement .bit5L := of_head rfl rfl
theorem bit5AtHl : Statement .bit5AtHl := of_head rfl rfl
theorem bit5A : Statement .bit5A := of_head rfl rfl
theorem bit6B : Statement .bit6B := of_head rfl rfl
theorem bit6C : Statement .bit6C := of_head rfl rfl
theorem bit6D : Statement .bit6D := of_head rfl rfl
theorem bit6E : Statement .bit6E := of_head rfl rfl
theorem bit6H : Statement .bit6H := of_head rfl rfl
theorem bit6L : Statement .bit6L := of_head rfl rfl
theorem bit6AtHl : Statement .bit6AtHl := of_head rfl rfl
theorem bit6A : Statement .bit6A := of_head rfl rfl
theorem bit7B : Statement .bit7B := of_head rfl rfl
theorem bit7C : Statement .bit7C := of_head rfl rfl
theorem bit7D : Statement .bit7D := of_head rfl rfl
theorem bit7E : Statement .bit7E := of_head rfl rfl
theorem bit7H : Statement .bit7H := of_head rfl rfl
theorem bit7L : Statement .bit7L := of_head rfl rfl
theorem bit7AtHl : Statement .bit7AtHl := of_head rfl rfl
theorem bit7A : Statement .bit7A := of_head rfl rfl
theorem res0B : Statement .res0B := of_head rfl rfl
theorem res0C : Statement .res0C := of_head rfl rfl
theorem res0D : Statement .res0D := of_head rfl rfl
theorem res0E : Statement .res0E := of_head rfl rfl
theorem res0H : Statement .res0H := of_head rfl rfl
theorem res0L : Statement .res0L := of_head rfl rfl
theorem res0AtHl : Statement .res0AtHl := of_head rfl rfl
theorem res0A : Statement .res0A := of_head rfl rfl
theorem res1B : Statement .res1B := of_head rfl rfl
theorem res1C : Statement .res1C := of_head rfl rfl
theorem res1D : Statement .res1D := of_head rfl rfl
theorem res1E : Statement .res1E := of_head rfl rfl
theorem res1H : Statement .res1H := of_head rfl rfl
theorem res1L : Statement .res1L := of_head rfl rfl
theorem res1AtHl : Statement .res1AtHl := of_head rfl rfl
theorem res1A : Statement .res1A := of_head rfl rfl
theorem res2B : Statement .res2B := of_head rfl rfl
theorem res2C : Statement .res2C := of_head rfl rfl
theorem res2D : Statement .res2D := of_head rfl rfl
theorem res2E : Statement .res2E := of_head rfl rfl
theorem res2H : Statement .res2H := of_head rfl rfl
theorem res2L : Statement .res2L := of_head rfl rfl
theorem res2AtHl : Statement .res2AtHl := of_head rfl rfl
theorem res2A : Statement .res2A := of_head rfl rfl
theorem res3B : Statement .res3B := of_head rfl rfl
theorem res3C : Statement .res3C := of_head rfl rfl
theorem res3D : Statement .res3D := of_head rfl rfl
theorem res3E : Statement .res3E := of_head rfl rfl
theorem res3H : Statement .res3H := of_head rfl rfl
theorem res3L : Statement .res3L := of_head rfl rfl
theorem res3AtHl : Statement .res3AtHl := of_head rfl rfl
theorem res3A : Statement .res3A := of_head rfl rfl
theorem res4B : Statement .res4B := of_head rfl rfl
theorem res4C : Statement .res4C := of_head rfl rfl
theorem res4D : Statement .res4D := of_head rfl rfl
theorem res4E : Statement .res4E := of_head rfl rfl
theorem res4H : Statement .res4H := of_head rfl rfl
theorem res4L : Statement .res4L := of_head rfl rfl
theorem res4AtHl : Statement .res4AtHl := of_head rfl rfl
theorem res4A : Statement .res4A := of_head rfl rfl
theorem res5B : Statement .res5B := of_head rfl rfl
theorem res5C : Statement .res5C := of_head rfl rfl
theorem res5D : Statement .res5D := of_head rfl rfl
theorem res5E : Statement .res5E := of_head rfl rfl
theorem res5H : Statement .res5H := of_head rfl rfl
theorem res5L : Statement .res5L := of_head rfl rfl
theorem res5AtHl : Statement .res5AtHl := of_head rfl rfl
theorem res5A : Statement .res5A := of_head rfl rfl
theorem res6B : Statement .res6B := of_head rfl rfl
theorem res6C : Statement .res6C := of_head rfl rfl
theorem res6D : Statement .res6D := of_head rfl rfl
theorem res6E : Statement .res6E := of_head rfl rfl
theorem res6H : Statement .res6H := of_head rfl rfl
theorem res6L : Statement .res6L := of_head rfl rfl
theorem res6AtHl : Statement .res6AtHl := of_head rfl rfl
theorem res6A : Statement .res6A := of_head rfl rfl
theorem res7B : Statement .res7B := of_head rfl rfl
theorem res7C : Statement .res7C := of_head rfl rfl
theorem res7D : Statement .res7D := of_head rfl rfl
theorem res7E : Statement .res7E := of_head rfl rfl
theorem res7H : Statement .res7H := of_head rfl rfl
theorem res7L : Statement .res7L := of_head rfl rfl
theorem res7AtHl : Statement .res7AtHl := of_head rfl rfl
theorem res7A : Statement .res7A := of_head rfl rfl
theorem set0B : Statement .set0B := of_head rfl rfl
theorem set0C : Statement .set0C := of_head rfl rfl
theorem set0D : Statement .set0D := of_head rfl rfl
theorem set0E : Statement .set0E := of_head rfl rfl
theorem set0H : Statement .set0H := of_head rfl rfl
theorem set0L : Statement .set0L := of_head rfl rfl
theorem set0AtHl : Statement .set0AtHl := of_head rfl rfl
theorem set0A : Statement .set0A := of_head rfl rfl
theorem set1B : Statement .set1B := of_head rfl rfl
theorem set1C : Statement .set1C := of_head rfl rfl
theorem set1D : Statement .set1D := of_head rfl rfl
theorem set1E : Statement .set1E := of_head rfl rfl
theorem set1H : Statement .set1H := of_head rfl rfl
theorem set1L : Statement .set1L := of_head rfl rfl
theorem set1AtHl : Statement .set1AtHl := of_head rfl rfl
theorem set1A : Statement .set1A := of_head rfl rfl
theorem set2B : Statement .set2B := of_head rfl rfl
theorem set2C : Statement .set2C := of_head rfl rfl
theorem set2D : Statement .set2D := of_head rfl rfl
theorem set2E : Statement .set2E := of_head rfl rfl
theorem set2H : Statement .set2H := of_head rfl rfl
theorem set2L : Statement .set2L := of_head rfl rfl
theorem set2AtHl : Statement .set2AtHl := of_head rfl rfl
theorem set2A : Statement .set2A := of_head rfl rfl
theorem set3B : Statement .set3B := of_head rfl rfl
theorem set3C : Statement .set3C := of_head rfl rfl
theorem set3D : Statement .set3D := of_head rfl rfl
theorem set3E : Statement .set3E := of_head rfl rfl
theorem set3H : Statement .set3H := of_head rfl rfl
theorem set3L : Statement .set3L := of_head rfl rfl
theorem set3AtHl : Statement .set3AtHl := of_head rfl rfl
theorem set3A : Statement .set3A := of_head rfl rfl
theorem set4B : Statement .set4B := of_head rfl rfl
theorem set4C : Statement .set4C := of_head rfl rfl
theorem set4D : Statement .set4D := of_head rfl rfl
theorem set4E : Statement .set4E := of_head rfl rfl
theorem set4H : Statement .set4H := of_head rfl rfl
theorem set4L : Statement .set4L := of_head rfl rfl
theorem set4AtHl : Statement .set4AtHl := of_head rfl rfl
theorem set4A : Statement .set4A := of_head rfl rfl
theorem set5B : Statement .set5B := of_head rfl rfl
theorem set5C : Statement .set5C := of_head rfl rfl
theorem set5D : Statement .set5D := of_head rfl rfl
theorem set5E : Statement .set5E := of_head rfl rfl
theorem set5H : Statement .set5H := of_head rfl rfl
theorem set5L : Statement .set5L := of_head rfl rfl
theorem set5AtHl : Statement .set5AtHl := of_head rfl rfl
theorem set5A : Statement .set5A := of_head rfl rfl
theorem set6B : Statement .set6B := of_head rfl rfl
theorem set6C : Statement .set6C := of_head rfl rfl
theorem set6D : Statement .set6D := of_head rfl rfl
theorem set6E : Statement .set6E := of_head rfl rfl
theorem set6H : Statement .set6H := of_head rfl rfl
theorem set6L : Statement .set6L := of_head rfl rfl
theorem set6AtHl : Statement .set6AtHl := of_head rfl rfl
theorem set6A : Statement .set6A := of_head rfl rfl
theorem set7B : Statement .set7B := of_head rfl rfl
theorem set7C : Statement .set7C := of_head rfl rfl
theorem set7D : Statement .set7D := of_head rfl rfl
theorem set7E : Statement .set7E := of_head rfl rfl
theorem set7H : Statement .set7H := of_head rfl rfl
theorem set7L : Statement .set7L := of_head rfl rfl
theorem set7AtHl : Statement .set7AtHl := of_head rfl rfl
theorem set7A : Statement .set7A := of_head rfl rfl

end Sys2Proof.Laws.EncodedLength
end

