-- ==== Sys2Proof/Laws/Reset.lean ====
section
/-! SUPPORT. What a step spends when a reset may come during it: the cycles of the script that are used up, the trace entries
made in them, and the bytes they leave (R450). -/

namespace Sys2Proof.Machine

/-- No action of the cycles `spent` touches the byte at `addr`. -/
def Untouched (spent : List EnvCycle) (addr : Word) : Prop := ∀ c ∈ spent, ∀ x ∈ c, ¬x.touches addr

/-- From `s` to `t` the script lost `spent` and the trace gained `cycles`: one entry for each, up to the first reset. A byte
that `spent` leaves alone holds what the writes of `cycles` left there, and IF what `f` makes of that. -/
structure Spends (f : Byte → Byte) (s t : State) (spent : List EnvCycle) (cycles : List BusCycle) : Prop where
  env : s.env = spent ++ t.env
  trace : t.trace = cycles.reverse ++ s.trace
  before : ∀ c ∈ spent.dropLast, EnvAction.reset ∉ c
  line : t.resetLine = true ↔ ∃ c ∈ spent, EnvAction.reset ∈ c
  length : t.env ≠ [] ∨ t.resetLine = true → cycles.length = spent.length
  mem : ∀ addr, Untouched spent addr → t.readByte addr =
    if addr = 0xFF0F#16 then f (storedBy addr cycles (s.readByte addr)) else storedBy addr cycles (s.readByte addr)

/-- What an acknowledge, or none, makes of IF. -/
def IsAcknowledge (f : Byte → Byte) : Prop := f = id ∨ ∃ n, f = (· &&& ~~~(lineBit n))

/-- Some cycles were spent. -/
def SomeSpent (f : Byte → Byte) (s t : State) : Prop := ∃ spent cycles, Spends f s t spent cycles

theorem SomeSpent.refl {s : State} (h : s.resetLine = false) : SomeSpent id s s :=
  ⟨[], [], ⟨rfl, rfl, by simp, by simp [h], by simp, fun _ _ => by simp [storedBy]⟩⟩

/-- A change of CORE's own registers spends nothing. -/
theorem SomeSpent.same {f : Byte → Byte} {s t u : State} (h : SomeSpent f s t) (he : u.env = t.env) (ht : u.trace = t.trace)
    (hl : u.resetLine = t.resetLine) (hm : u.mem = t.mem) : SomeSpent f s u := by
  obtain ⟨sp, cs, h⟩ := h
  refine ⟨sp, cs, ⟨he ▸ h.env, ht ▸ h.trace, h.before, hl ▸ h.line, ?_, fun a ha => ?_⟩⟩
  · rw [he, hl]
    exact h.length
  · rw [← h.mem a ha, State.readByte, State.readByte, hm]

theorem SomeSpent.setPc {f : Byte → Byte} {s t : State} (h : SomeSpent f s t) (v : Word) : SomeSpent f s (t.setPc v) :=
  h.same rfl rfl rfl rfl

/-- One more machine cycle: `u` is the state at its end, before the environment acts. -/
theorem Spends.tick {f : Byte → Byte} {s t u : State} {k : BusCycle} {spent : List EnvCycle} {cycles : List BusCycle}
    (h : Spends f s t spent cycles) (hl : t.resetLine = false) (hu : u.resetLine = false) (he : u.env = t.env)
    (ht : u.trace = k :: t.trace)
    (hm : ∀ addr, Untouched spent addr → u.readByte addr =
      if addr = 0xFF0F#16 then f (storedBy addr (cycles ++ [k]) (s.readByte addr))
      else storedBy addr (cycles ++ [k]) (s.readByte addr)) : SomeSpent f s u.tick := by
  have hno : ¬∃ c ∈ spent, EnvAction.reset ∈ c := fun hc => by simpa [hl] using h.line.2 hc
  cases hs : u.env with
  | nil =>
    have htick : u.tick = u := by simp only [State.tick, hs]
    rw [htick]
    exact ⟨spent, cycles ++ [k], ⟨by rw [he]; exact h.env, by rw [ht, h.trace]; simp, h.before, by simpa [hu] using hno,
      by simp [hs, hu], hm⟩⟩
  | cons c rest =>
    have htick : u.tick = (u.setEnv rest).acts c := by simp only [State.tick, hs]
    rw [htick]
    refine ⟨spent ++ [c], cycles ++ [k], ⟨?_, ?_, ?_, ?_, ?_, fun a ha => ?_⟩⟩
    · rw [acts_env, h.env, ← he, hs]; simp
    · rw [acts_trace, setEnv_trace, ht, h.trace]; simp
    · rw [List.dropLast_concat]
      exact fun d hd hr => hno ⟨d, hd, hr⟩
    · rw [acts_resetLine]
      constructor
      · intro hr
        exact ⟨c, by simp, by simpa [hu] using hr⟩
      · rintro ⟨d, hd, hr⟩
        rcases List.mem_append.1 hd with hd | hd
        · exact absurd ⟨d, hd, hr⟩ hno
        · simp only [List.mem_singleton] at hd
          simp [hd ▸ hr]
    · intro _
      simp [h.length (.inl (by rw [← he, hs]; simp))]
    · rw [acts_readByte (ha c (by simp)), setEnv_readByte]
      exact hm a fun d hd => ha d (List.mem_append_left _ hd)

/-- A machine cycle that writes nothing, frozen or not. -/
theorem SomeSpent.cycle {f : Byte → Byte} {s t : State} (h : SomeSpent f s t) (k : BusCycle)
    (hk : ∀ addr v, storedBy addr [k] v = v) : SomeSpent f s (t.cycle k) := by
  obtain ⟨sp, cs, h⟩ := h
  unfold State.cycle
  split
  · exact ⟨sp, cs, h⟩
  · rename_i hl
    have hl : t.resetLine = false := by simpa using hl
    refine h.tick hl hl rfl rfl fun a ha => ?_
    rw [storedBy_append, hk, setTrace_readByte]
    exact h.mem a ha

/-- A write, frozen or not, before any acknowledge. -/
theorem SomeSpent.memWrite {s t : State} (h : SomeSpent id s t) (b : Word) (v : Byte) : SomeSpent id s (t.memWrite b v) := by
  have hs := h
  obtain ⟨sp, cs, h⟩ := h
  unfold State.memWrite
  split
  · exact hs
  · rename_i hl
    have hl : t.resetLine = false := by simpa using hl
    rw [cycle_eq (by exact hl)]
    refine h.tick hl (by exact hl) rfl rfl fun a ha => ?_
    rw [storedBy_append, setTrace_readByte, State.putByte_readByte, h.mem a ha]
    simp [storedBy]

/-- The acknowledge, frozen or not. -/
theorem SomeSpent.acknowledge {s t : State} (h : SomeSpent id s t) (n : Interrupt) :
    ∃ f, IsAcknowledge f ∧ SomeSpent f s (t.acknowledge n) := by
  unfold State.acknowledge State.sideWrite
  split
  · exact ⟨id, .inl rfl, h⟩
  · obtain ⟨sp, cs, h⟩ := h
    refine ⟨_, .inr ⟨n, rfl⟩, sp, cs, ⟨h.env, h.trace, h.before, h.line, h.length, fun a ha => ?_⟩⟩
    rw [State.putByte_readByte]
    by_cases hi : a = 0xFF0F#16
    · subst hi
      have hif := h.mem _ ha
      rw [if_pos rfl] at hif
      rw [if_pos rfl]
      exact (if_pos rfl).trans (congrArg (· &&& ~~~(lineBit n)) hif)
    · rw [if_neg hi, if_neg (by rw [Config.ifAddr]; exact hi), h.mem a ha, if_neg hi]

/-- What all the primitives but the acknowledge keep. -/
theorem someSpent_closed (s : State) : ClosedLocal (SomeSpent id s) where
  setA _ _ h := h.same rfl rfl rfl rfl
  setF _ _ h := h.same rfl rfl rfl rfl
  setB _ _ h := h.same rfl rfl rfl rfl
  setC _ _ h := h.same rfl rfl rfl rfl
  setD _ _ h := h.same rfl rfl rfl rfl
  setE _ _ h := h.same rfl rfl rfl rfl
  setH _ _ h := h.same rfl rfl rfl rfl
  setL _ _ h := h.same rfl rfl rfl rfl
  setSp _ _ h := h.same rfl rfl rfl rfl
  setPc _ _ h := h.same rfl rfl rfl rfl
  idle _ h := h.cycle _ fun _ _ => rfl
  memRead _ _ h := h.cycle _ fun _ _ => rfl
  memWrite _ a v h := h.memWrite a v
  setIr _ _ h := h.same rfl rfl rfl rfl
  setIme _ _ h := h.same rfl rfl rfl rfl
  setEiPending _ _ h := h.same rfl rfl rfl rfl
  setRun _ _ h := h.same rfl rfl rfl rfl

/-- A fetch with the interrupt check after it, frozen or not. -/
theorem SomeSpent.interruptCheck {s t : State} (h : SomeSpent id s t) :
    ∃ f, IsAcknowledge f ∧ SomeSpent f s t.interruptCheck := by
  have hP := someSpent_closed s
  unfold State.interruptCheck
  split
  · rename_i n _ _
    have h1 := hP.idle _ (hP.idle _ (hP.setPc _ (t.pc - 1) h))
    obtain ⟨f, hf, h2⟩ := SomeSpent.acknowledge (hP.setEiPending _ false (hP.setIme _ false (hP.push16 _ h1))) n
    exact ⟨f, hf, ((h2.setPc (serviceAddress n)).cycle _ fun _ _ => rfl).same rfl rfl rfl rfl⟩
  · exact ⟨id, .inl rfl, hP.commitEi h⟩

theorem SomeSpent.fetchNext {s t : State} (h : SomeSpent id s t) : ∃ f, IsAcknowledge f ∧ SomeSpent f s t.fetchNext :=
  ((someSpent_closed s).fetchOpcode h).interruptCheck

theorem SomeSpent.postFetch {s t : State} (h : SomeSpent id s t) (i : Instr) :
    ∃ f u, IsAcknowledge f ∧ SomeSpent f s u ∧ t.postFetch i = u.settle := by
  unfold State.postFetch
  split
  · exact ⟨id, t, .inl rfl, h, rfl⟩
  · obtain ⟨f, hf, hu⟩ := h.fetchNext
    exact ⟨f, _, hf, hu, rfl⟩

theorem SomeSpent.haltWith {s t : State} (h : SomeSpent id s t) (bug : Bool) :
    ∃ f, IsAcknowledge f ∧ SomeSpent f s (t.haltWith bug) := by
  have hP := someSpent_closed s
  unfold State.haltWith
  split
  · split
    · exact SomeSpent.interruptCheck (hP.setIr _ _ (hP.memRead _ _ h))
    · exact h.fetchNext
  · exact ⟨id, .inl rfl, hP.setRun _ _ h⟩

theorem decodePrefixed_ne_halt : ∀ op2 : Byte, decodePrefixed op2 ≠ .halt := by decide

/-- The next state of a step of a core that is neither Stopped nor Locked: what the step spent, and then its end, at which a
reset that was asserted takes effect. -/
theorem step_spends {s : State} (hl : s.resetLine = false) (hr : s.run = .running ∨ s.run = .halted) :
    ∃ f t, IsAcknowledge f ∧ SomeSpent f s t ∧ step s = .next t.settle := by
  have hP := someSpent_closed s
  have h0 := SomeSpent.refl hl
  rcases hr with hr | hr
  · simp only [step, hl, hr, Bool.false_eq_true, if_false]
    have h1 := hP.fetchInstr h0
    unfold stepRunning
    by_cases hi : s.fetchInstr.1 = .halt
    · obtain ⟨f, hf, h2⟩ := h1.haltWith Config.haltBug
      simp only [hi]
      exact ⟨f, _, hf, h2, rfl⟩
    · obtain ⟨u, hu, h2⟩ := exec_closedLocal hP hi h1
      simp only [hu]
      split
      · obtain ⟨w, hw, h3⟩ := exec_closedLocal hP (decodePrefixed_ne_halt u.ir) h2
        obtain ⟨f, v, hf, hv, he⟩ := h3.postFetch (decodePrefixed u.ir)
        simp only [hw]
        exact ⟨f, v, hf, hv, by rw [he]⟩
      · obtain ⟨f, v, hf, hv, he⟩ := h2.postFetch s.fetchInstr.1
        exact ⟨f, v, hf, hv, by rw [he]⟩
  · simp only [step, hl, hr, Bool.false_eq_true, if_false]
    unfold State.stepHalted
    split
    · obtain ⟨f, hf, h1⟩ := SomeSpent.fetchNext (hP.setRun _ .running h0)
      exact ⟨f, _, hf, h1, rfl⟩
    · exact ⟨id, _, .inl rfl, hP.idle _ h0, rfl⟩

/-- What a stuck core does about a reset in its script: the cycles up to it are spent, and nothing is put out. -/
theorem resetInScript_spends {env : List EnvCycle} {s t : State} (he : s.env = env) (h : resetInScript env s = some t) :
    ∃ u : State, t = u.applyReset ∧ u.resetLine = true ∧ u.trace = s.trace ∧ ∃ spent, s.env = spent ++ u.env ∧
      (∀ c ∈ spent.dropLast, EnvAction.reset ∉ c) ∧
      ∀ addr, Untouched spent addr → u.readByte addr = s.readByte addr := by
  induction env generalizing s with
  | nil => simp [resetInScript] at h
  | cons c rest ih =>
    unfold resetInScript at h
    split at h
    · rename_i hl
      refine ⟨_, (Option.some.inj h).symm, hl, by simp, [c], by simp [he], by simp, fun a ha => ?_⟩
      rw [acts_readByte (ha c (by simp)), setEnv_readByte]
    · rename_i hl
      obtain ⟨u, ht, hu, htr, sp, hsp, hb, hm⟩ := ih (by simp) h
      refine ⟨u, ht, hu, by rw [htr]; simp, c :: sp, ?_, ?_, fun a ha => ?_⟩
      · rw [he, List.cons_append, ← hsp]; simp
      · cases sp with
        | nil => simp
        | cons d ds =>
          intro x hx
          rw [List.dropLast_cons_of_ne_nil (by simp)] at hx
          rcases List.mem_cons.1 hx with rfl | hx
          · intro hr
            apply hl
            rw [acts_resetLine]
            simp [hr]
          · exact hb x hx
      · rw [hm a fun d hd => ha d (List.mem_cons_of_mem _ hd), acts_readByte (ha c (by simp)), setEnv_readByte]

end Sys2Proof.Machine
end

