-- ==== Sys2Proof/Tests/Slice0.lean ====
section
/-! SUPPORT. The model's own tests: expected results are the spec's (each names its row of spec/95_test_vectors.md or its rule),
one step each; and for every statement with hypotheses a witness that they can be met together. -/

namespace Sys2Proof.Tests

open Machine

/-! ### Well-formedness and decoding -/

/-- The one check of `Instr.wellFormed`, on a term that fails it: 0x00 is no illegal opcode (R100). -/
theorem test_wellFormed_refuses_a_legal_byte : (Instr.illegal 0x00#8).wellFormed = false := by decide
theorem test_wellFormed_accepts_an_illegal_byte : (Instr.illegal 0xED#8).wellFormed = true := by decide

/-- Bit by bit from R91, R92, R95: `x yyy zzz` with x = 0. -/
theorem test_decode_block0 :
    decode [0b00_100_000#8, 0xFB#8] = .ok (.jrNzE8 0xFB#8) ∧ decode [0b00_110_001#8, 0xFE#8, 0xFF#8] = .ok (.ldSpD16 0xFFFE#16) ∧
    decode [0b00_011_001#8] = .ok .addHlDe ∧ decode [0b00_110_010#8] = .ok .ldAtHlDecA ∧
    decode [0b00_101_010#8] = .ok .ldAAtHlInc ∧ decode [0b00_111_011#8] = .ok .decSp ∧
    decode [0b00_110_100#8] = .ok .incAtHl ∧ decode [0b00_111_101#8] = .ok .decA ∧
    decode [0b00_110_110#8, 0x99#8] = .ok (.ldAtHlD8 0x99#8) ∧ decode [0b00_100_111#8] = .ok .daa := by
  decide

/-- Blocks 1 and 2 (R96, R97): HALT stands where `LD (HL),(HL)` would. -/
theorem test_decode_blocks1and2 :
    decode [0b01_000_001#8] = .ok .ldBC ∧ decode [0b01_110_110#8] = .ok .halt ∧ decode [0b01_110_101#8] = .ok .ldAtHlL ∧
    decode [0b01_100_110#8] = .ok .ldHAtHl ∧ decode [0b10_011_100#8] = .ok .sbcAH ∧
    decode [0b10_111_110#8] = .ok .cpAtHl := by decide

/-- Block 3 (R98). -/
theorem test_decode_block3 :
    decode [0b11_011_000#8] = .ok .retC ∧ decode [0b11_110_001#8] = .ok .popAf ∧ decode [0b11_011_001#8] = .ok .reti ∧
    decode [0b11_010_010#8, 0x00#8, 0x80#8] = .ok (.jpNcA16 0x8000#16) ∧
    decode [0b11_101_010#8, 0x00#8, 0xC0#8] = .ok (.ldAtA16A 0xC000#16) ∧ decode [0b11_110_011#8] = .ok .di ∧
    decode [0b11_001_100#8, 0x34#8, 0x12#8] = .ok (.callZA16 0x1234#16) ∧ decode [0b11_110_101#8] = .ok .pushAf ∧
    decode [0b11_100_011#8] = .ok (.illegal 0xE3#8) ∧ decode [0b11_110_110#8, 0x03#8] = .ok (.orD8 0x03#8) ∧
    decode [0b11_111_000#8, 0x02#8] = .ok (.ldHlSpE8 0x02#8) ∧ decode [0b11_111_111#8] = .ok .rst38 := by decide

/-- The prefixed table (R99). -/
theorem test_decode_prefixed :
    decode [0xCB#8, 0b00_010_110#8] = .ok .rlAtHl ∧ decode [0xCB#8, 0b00_111_111#8] = .ok .srlA ∧
    decode [0xCB#8, 0b01_100_101#8] = .ok .bit4L ∧ decode [0xCB#8, 0b10_011_110#8] = .ok .res3AtHl ∧
    decode [0xCB#8, 0b11_111_111#8] = .ok .set7A := by decide

/-- R95 to R98, R106, every row of the unprefixed table: the bytes that the encoder has for it, which are written out row by
row from the `match` column of spec/opcode_table.json, are those the field decoder reads it from. Decoding stops at the second
byte of STOP and of PREFIX CB, so these two rows are looked at by their first byte. -/
theorem test_every_unprefixed_row : ∀ op : Byte,
    (encode (decodeUnprefixed op 0x34#8 0x12#8)).head? = some op ∧
      (op ≠ 0x10#8 → op ≠ 0xCB#8 →
        encode (decodeUnprefixed op 0x34#8 0x12#8) = [op, 0x34#8, 0x12#8].take (lengthOf op)) := by decide

/-- R99, every row of the prefixed table. -/
theorem test_every_prefixed_row : ∀ op2 : Byte, encode (decodePrefixed op2) = [0xCB#8, op2] := by decide

/-- R106: what is missing is named. -/
theorem test_decode_rejects_by_name :
    decode [] = .error .noOpcode ∧ decode [0x21#8, 0x34#8] = .error .missingImmediate := by decide

/-- The opcode table's words: a CB-prefixed row has 0xCB in bits 15..8 (R108, log 9). -/
theorem test_decodeTableWord :
    decodeTableWord 8 0x3E = some (.ldAD8 0x00#8) ∧ decodeTableWord 16 0xCB65 = some .bit4L ∧
    decodeTableWord 8 0xCB = some .prefixCb ∧ decodeTableWord 16 0x423E = some (.ldAD8 0x42#8) := by decide

/-! ### One step

`from` is the default start of spec/95_test_vectors.md: the instruction at 0x0100, its first byte in IR. -/

/-- The vectors' default start. -/
def start (ir : Byte) (mem : Memory) : State :=
  { State.launch with ir := ir, pc := 0x0101#16, sp := 0xD000#16, mem := mem }

/-- The state after one step. -/
def after (s : State) : Option State :=
  match step s with
  | .next t => some t
  | _ => none

/-- PC, IR and F of a state. -/
def pcIrF (s : State) : Word × Byte × Byte := (s.pc, s.ir, s.f)

/-- S1. -/
theorem test_nop_from_launch :
    (after { State.launch with mem := [(0x0100, 0x3E#8)] }).map (fun t => (t.pc, t.ir, t.trace)) =
      some (0x0101#16, 0x3E#8, [.read 0x0100#16 0x3E#8]) := by decide

/-- S2. -/
theorem test_ldAD8 :
    (after (start 0x3E#8 [(0x0101, 0x42#8)])).map (fun t => (t.a, pcIrF t, t.trace.length)) =
      some (0x42#8, (0x0103#16, 0x00#8, 0x00#8), 2) := by decide

/-- S3: R406's example. -/
theorem test_dispatch :
    (after { State.launch with ime := true, sp := 0xFFFE#16, mem := [(0x0040, 0xD9#8), (0x0100, 0x3C#8), (0xFF0F, 0x01#8), (0xFFFF, 0x01#8)] }).map (fun t => ((t.pc, t.ir, t.sp), (t.ime, t.mem), t.trace.length)) =
      some ((0x0041#16, 0xD9#8, 0xFFFC#16),
        (false, [(0x0040, 0xD9#8), (0x0100, 0x3C#8), (0xFFFD, 0x01#8), (0xFFFF, 0x01#8)]), 6) := by decide

/-- Z3: the second write wraps to 0x0000. -/
theorem test_ldAtA16Sp_wraps :
    (after { start 0x08#8 [(0x0101, 0xFF#8), (0x0102, 0xFF#8)] with sp := 0x1234#16 }).map (fun t => (t.mem, t.trace)) =
      some ([(0x0000, 0x12#8), (0x0101, 0xFF#8), (0x0102, 0xFF#8), (0xFFFF, 0x34#8)],
        [.read 0x0103#16 0x00#8, .write 0x0000#16 0x12#8, .write 0xFFFF#16 0x34#8, .read 0x0102#16 0xFF#8,
          .read 0x0101#16 0xFF#8]) := by decide

/-- Z6: e = -2. -/
theorem test_jr_to_itself :
    (after (start 0x18#8 [(0x0100, 0x18#8), (0x0101, 0xFE#8)])).map (fun t => (pcIrF t, t.trace.length)) =
      some ((0x0101#16, 0x18#8, 0x00#8), 3) := by decide

/-- Z9. -/
theorem test_jr_nz_not_taken :
    (after { start 0x20#8 [(0x0101, 0x05#8)] with f := 0x80#8 }).map (fun t => (pcIrF t, t.trace.length)) =
      some ((0x0103#16, 0x00#8, 0x80#8), 2) := by decide

/-- Z18. -/
theorem test_addHl_keeps_z :
    (after { start 0x09#8 [] with f := 0x80#8, b := 0x06#8, c := 0x05#8, h := 0x8A#8, l := 0x23#8 }).map (fun t => (t.h, t.l, t.f)) =
      some (0x90#8, 0x28#8, 0xA0#8) := by decide

/-- Z26. -/
theorem test_ldAtHlInc_wraps :
    (after { start 0x22#8 [] with a := 0x01#8, h := 0xFF#8, l := 0xFF#8 }).map (fun t => (t.h, t.l, t.mem)) =
      some (0x00#8, 0x00#8, [(0xFFFF, 0x01#8)]) := by decide

/-- Z39. -/
theorem test_incAtHl :
    (after { start 0x34#8 [(0xC000, 0xFF#8)] with h := 0xC0#8 }).map (fun t => (t.f, t.mem, t.trace)) =
      some (0xA0#8, [],
        [.read 0x0101#16 0x00#8, .write 0xC000#16 0x00#8, .read 0xC000#16 0xFF#8]) := by decide

/-- Z41. -/
theorem test_decL_borrows :
    (after (start 0x2D#8 [])).map (fun t => (t.l, t.f)) =
      some (0xFF#8, 0x60#8) := by decide

/-- Z48. -/
theorem test_rlca_clears_z :
    (after (start 0x07#8 [])).map (fun t => (t.a, t.f)) =
      some (0x00#8, 0x00#8) := by decide

/-- Z54. -/
theorem test_daa_after_add :
    (after { start 0x27#8 [] with a := 0x7D#8 }).map (fun t => (t.a, t.f)) =
      some (0x83#8, 0x00#8) := by decide

/-- Z55. -/
theorem test_daa_after_sub :
    (after { start 0x27#8 [] with a := 0x4B#8, f := 0x60#8 }).map (fun t => (t.a, t.f)) =
      some (0x45#8, 0x40#8) := by decide

/-- Z59. -/
theorem test_ccf_keeps_z :
    (after { start 0x3F#8 [] with f := 0xF0#8 }).map (fun t => t.f) =
      some 0x80#8 := by decide

/-- R291's example. -/
theorem test_ldHAtHl :
    (after { start 0x66#8 [(0xC000, 0x5C#8)] with h := 0xC0#8 }).map (fun t => (t.h, t.l)) =
      some (0x5C#8, 0x00#8) := by decide

/-- H1. -/
theorem test_halt_halts :
    (after { start 0x76#8 [(0x0101, 0x3C#8), (0xFFFF, 0x04#8)] with ime := false }).map (fun t => (t.run, t.pc, t.trace)) =
      some (.halted, 0x0101#16, []) := by decide

/-- H2, sixth step: IME = 0, so no dispatch. -/
theorem test_halted_wakes :
    (after { start 0x76#8 [(0x0101, 0x3C#8), (0xFF0F, 0x04#8), (0xFFFF, 0x04#8)] with run := .halted }).map (fun t => (t.run, pcIrF t, t.ime, t.mem.length)) =
      some (.running, (0x0102#16, 0x3C#8, 0x00#8), false, 3) := by decide

/-- H5: under HALT_BUG the byte after HALT is fetched without incrementing PC; H4: without it, with. -/
theorem test_halt_bug :
    ((start 0x76#8 [(0x0101, 0x3C#8), (0xFF0F, 0x04#8), (0xFFFF, 0x04#8)]).haltWith true).pc = 0x0101#16 ∧
    ((start 0x76#8 [(0x0101, 0x3C#8), (0xFF0F, 0x04#8), (0xFFFF, 0x04#8)]).haltWith false).pc = 0x0102#16 := by decide

/-- M5. -/
theorem test_adcAAtHl :
    (after { start 0x8E#8 [(0xC000, 0x1E#8)] with a := 0xE1#8, f := 0x10#8, h := 0xC0#8 }).map (fun t => (t.a, t.f, t.trace.length)) =
      some (0x00#8, 0xB0#8, 2) := by decide

/-- M9. -/
theorem test_sbcAA :
    (after { start 0x9F#8 [] with a := 0x77#8, f := 0x10#8 }).map (fun t => (t.a, t.f)) =
      some (0xFF#8, 0x70#8) := by decide

/-- M17. -/
theorem test_cpAtHl_keeps_a :
    (after { start 0xBE#8 [(0xC000, 0x40#8)] with a := 0x3C#8, h := 0xC0#8 }).map (fun t => (t.a, t.f)) =
      some (0x3C#8, 0x50#8) := by decide

/-- T5. -/
theorem test_retC_taken :
    (after { start 0xD8#8 [(0xCFFE, 0x34#8), (0xCFFF, 0x12#8)] with f := 0x10#8, sp := 0xCFFE#16 }).map (fun t => (t.pc, t.sp, t.trace)) =
      some (0x1235#16, 0xD000#16,
        [.read 0x1234#16 0x00#8, .idle, .read 0xCFFF#16 0x12#8, .read 0xCFFE#16 0x34#8, .idle]) := by decide

/-- T11. -/
theorem test_addSpE8_negative :
    (after { start 0xE8#8 [(0x0101, 0xFF#8)] with sp := 0x0001#16 }).map (fun t => (t.sp, t.f, t.trace.length)) =
      some (0x0000#16, 0x30#8, 4) := by decide

/-- T14. -/
theorem test_ldHlSpE8 :
    (after (start 0xF8#8 [(0x0101, 0x80#8)])).map (fun t => (t.h, t.l, t.f, t.sp)) =
      some (0xCF#8, 0x80#8, 0x00#8, 0xD000#16) := by decide

/-- T17. -/
theorem test_popAf_masks_f :
    (after { start 0xF1#8 [(0xCFFE, 0xFF#8), (0xCFFF, 0x12#8)] with sp := 0xCFFE#16 }).map (fun t => (t.a, t.f, t.sp)) =
      some (0x12#8, 0xF0#8, 0xD000#16) := by decide

/-- T19. -/
theorem test_reti_sets_ime :
    (after { start 0xD9#8 [(0xCFFE, 0x34#8), (0xCFFF, 0x12#8)] with sp := 0xCFFE#16 }).map (fun t => (t.pc, t.sp, t.ime)) =
      some (0x1235#16, 0xD000#16, true) := by decide

/-- T35. -/
theorem test_callNz :
    (after (start 0xC4#8 [(0x0102, 0x80#8)])).map (fun t => (t.pc, t.sp, t.mem, t.trace.length)) =
      some (0x8001#16, 0xCFFE#16, [(0x0102, 0x80#8), (0xCFFE, 0x03#8), (0xCFFF, 0x01#8)], 6) := by decide

/-- T42. -/
theorem test_pushHl_wraps :
    (after { start 0xE5#8 [] with h := 0xAB#8, l := 0xCD#8, sp := 0x0001#16 }).map (fun t => (t.sp, t.mem)) =
      some (0xFFFF#16, [(0x0000, 0xAB#8), (0xFFFF, 0xCD#8)]) := by decide

/-- T53. -/
theorem test_rst28 :
    (after (start 0xEF#8 [])).map (fun t => (t.pc, t.sp, t.mem)) =
      some (0x0029#16, 0xCFFE#16, [(0xCFFE, 0x01#8), (0xCFFF, 0x01#8)]) := by decide

/-- T56: no interrupt is taken. -/
theorem test_illegal_locks :
    (after { start 0xFD#8 [(0xFF0F, 0x01#8), (0xFFFF, 0x01#8)] with ime := true }).map (fun t => (t.run, t.pc, t.ir, t.trace)) =
      some (.locked, 0x0101#16, 0xFD#8, []) := by decide

/-- Z4. -/
theorem test_stop_stops :
    (after (start 0x10#8 [])).map (fun t => (t.run, t.pc, t.ir, t.trace)) =
      some (.stopped, 0x0101#16, 0x10#8, []) := by decide

/-- K5. -/
theorem test_rlAtHl :
    (after { start 0xCB#8 [(0x0101, 0x16#8), (0xC000, 0x11#8)] with f := 0x10#8, h := 0xC0#8 }).map (fun t => (t.f, t.mem, t.trace.length)) =
      some (0x00#8, [(0x0101, 0x16#8), (0xC000, 0x23#8)], 4) := by decide

/-- K18: 3 cycles, no write. -/
theorem test_bit0AtHl :
    (after { start 0xCB#8 [(0x0101, 0x46#8), (0xC000, 0xFE#8)] with h := 0xC0#8 }).map (fun t => (t.f, t.trace.length)) =
      some (0xA0#8, 3) := by decide

/-- K23: the write happens even when the byte does not change. -/
theorem test_res0AtHl_writes_back :
    (after { start 0xCB#8 [(0x0101, 0x86#8), (0xC000, 0xFE#8)] with h := 0xC0#8 }).map (fun t => t.trace) =
      some [.read 0x0102#16 0x00#8, .write 0xC000#16 0xFE#8, .read 0xC000#16 0xFE#8, .read 0x0101#16 0x86#8] := by decide

/-- I5: all five pending. -/
theorem test_priority :
    (after { start 0x3C#8 [(0xFF0F, 0x1F#8), (0xFFFF, 0x1F#8)] with ime := true }).map (fun t => (t.pc, t.readByte 0xFF0F#16, t.ime)) =
      some (0x0041#16, 0x1E#8, false) := by decide

/-- I7, first step. -/
theorem test_ei_delays :
    (after (start 0xFB#8 [(0x0101, 0x3C#8), (0xFF0F, 0x01#8), (0xFFFF, 0x01#8)])).map (fun t => (t.pc, t.ime, t.eiPending, t.sp)) =
      some (0x0102#16, true, false, 0xD000#16) := by decide

/-- I14 (R408). -/
theorem test_push_over_ie_does_not_redirect :
    (after { State.launch with ime := true, sp := 0x0001#16, mem := [(0xFF0F, 0x01#8), (0xFFFF, 0x01#8)] }).map (fun t => (t.pc, t.sp, t.mem)) =
      some (0x0041#16, 0xFFFF#16, [(0x0000, 0x01#8)]) := by decide

/-- I15. -/
theorem test_store_to_if_is_seen :
    (after { start 0xE0#8 [(0x0101, 0x0F#8), (0xFFFF, 0x04#8)] with ime := true, a := 0x04#8 }).map (fun t => (t.pc, t.readByte 0xFF0F#16)) =
      some (0x0051#16, 0x00#8) := by decide

/-- R212, D30: the check comes after the fetch's tick. -/
theorem test_request_in_the_fetch_cycle_is_seen :
    (after { start 0x00#8 [(0xFFFF, 0x02#8)] with ime := true, env := [[.request .lcdStat]] }).map (fun t => (t.pc, t.ime)) =
      some (0x0049#16, false) := by decide

/-- R450: the first write is issued, the second is not. -/
theorem test_reset_abandons :
    (after { start 0xC5#8 [] with b := 0x12#8, c := 0x34#8, env := [[], [.reset]] }).map (fun t => (t.regs, t.mem, t.trace)) =
      some (State.reset.regs, [(0xCFFF, 0x12#8)], [.write 0xCFFF#16 0x12#8, .idle]) := by decide

/-- Section 2.8, step 1, with other values in the registers that R451 leaves open. -/
theorem test_reset_first_step :
    (after { State.reset with a := 0xAA#8, sp := 0x1234#16, mem := [(0x0000, 0x31#8)] }).map (fun t => (t.a, t.sp, pcIrF t)) =
      some (0xAA#8, 0x1234#16, 0x0001#16, 0x31#8, 0x00#8) := by decide

/-- Log 9: the very next step runs the row's instruction (K17, Z44 with operand bytes 0). -/
theorem test_withFetchWord_runs_the_row :
    (after ({ State.reset with l := 0xEF#8 }.withFetchWord 16 0xCB65)).map (fun t => t.f) = some 0xA0#8 ∧
    (after ({ State.reset with b := 0x42#8 }.withFetchWord 8 0x06)).map (fun t => t.b) = some 0x00#8 := by decide

/-! ### Witnesses: the hypotheses of each statement can be met together -/

theorem noReset_of_flat {s : State} (hl : s.resetLine = false) (he : s.env = []) : s.NoReset :=
  ⟨hl, fun _ hc => absurd (he ▸ hc) List.not_mem_nil⟩

theorem spares_of_flat {s : State} (he : s.env = []) (n : Nat) (a : Word) : s.EnvSpares n a := fun _ hc =>
  absurd (List.mem_of_mem_take (he ▸ hc)) List.not_mem_nil

theorem launch_noReset : State.launch.NoReset := noReset_of_flat rfl rfl

/-- A state whose script is not empty: a request, then writes to two bytes. -/
def busy : State :=
  { start 0x00#8 [(0xC000, 0x5A#8), (0xFFFF, 0x1F#8)] with
    h := 0xC0#8, env := [[.request .timer], [.write 0xC100#16 0x01#8, .write 0xC101#16 0x02#8]] }

theorem busy_noReset : busy.NoReset := by
  refine ⟨rfl, ?_⟩
  decide

theorem witness_PointerLoadsMoveAAndStepHl :
    ∃ s : State, s.NoReset :=
  ⟨busy, busy_noReset⟩

theorem witness_AddressLoadsMoveA :
    ∃ s : State, s.NoReset :=
  ⟨busy, busy_noReset⟩

theorem witness_WordLoads :
    ∃ s : State, s.NoReset :=
  ⟨busy, busy_noReset⟩

theorem witness_AddAndAdcOnTheAccumulator :
    ∃ s : State, s.NoReset :=
  ⟨busy, busy_noReset⟩

theorem witness_SubSbcAndCpOnTheAccumulator :
    ∃ s : State, s.NoReset :=
  ⟨busy, busy_noReset⟩

theorem witness_LogicOnTheAccumulator :
    ∃ s : State, s.NoReset :=
  ⟨busy, busy_noReset⟩

theorem witness_IncAndDecOfAByte :
    ∃ s : State, s.NoReset :=
  ⟨busy, busy_noReset⟩

theorem witness_SixteenBitArithmetic :
    ∃ s : State, s.NoReset :=
  ⟨busy, busy_noReset⟩

theorem witness_PrefixedRotatesAndShifts :
    ∃ s : State, s.NoReset :=
  ⟨busy, busy_noReset⟩

theorem witness_ControlInstructions :
    ∃ s : State, s.NoReset :=
  ⟨busy, busy_noReset⟩

theorem witness_DecodeOfEncodeIsTheInstruction :
    ∃ i : Instr, i.wellFormed = true ∧ i ≠ .prefixCb :=
  ⟨.callNcA16 0xFFFF#16, rfl, by simp⟩

theorem witness_EncodeOfDecodeIsTheBytes :
    ∃ (bytes : List Byte) (i : Instr), decode bytes = .ok i ∧ bytes.head? ≠ some 0x10#8 :=
  ⟨[0x3E#8, 0x42#8], .ldAD8 0x42#8, rfl, by decide⟩

/-- Either clause, at the boundary, for a row of three bytes; and the two opcodes that ask for no further byte. -/
theorem witness_DecoderRejectsOnlyMissingBytes :
    (lengthOf 0x21#8 - 1 ≤ [0x34#8, 0x12#8].length ∧ [0x34#8].length < lengthOf 0x21#8 - 1) ∧
    decode [0x10#8] = .ok .stop ∧ decode [0xCB#8] = .ok .prefixCb :=
  by decide

theorem witness_CarryVectorIsTheCarries :
    ∃ i : Nat, i < 7 ∧ i < 8 :=
  ⟨6, by decide⟩

theorem witness_LogicOperationsAndTheirFlags :
    ∃ i : Nat, i < 8 :=
  ⟨7, by decide⟩

theorem witness_RotatesAndShiftsMoveEveryBit :
    ∃ i : Nat, i < 8 :=
  ⟨7, by decide⟩

theorem witness_BitAndFlagOperationsTouchWhatTheyName :
    ∃ n i : Nat, n < 8 ∧ i < 8 ∧ i = n :=
  ⟨7, 7, by decide⟩

theorem witness_DaaMakesArithmeticDecimal :
    ∃ x y : Nat, x < 100 ∧ y < 100 :=
  ⟨99, 99, by decide⟩

/-- What `StepRunsTheDecodedInstruction` asks of a state and an instruction. -/
def RunsNext (s : State) (i : Instr) : Prop :=
  s.NoReset ∧ s.run = .running ∧ s.EnvSpares 1 (s.pc + 1) ∧ decode [s.ir, s.readByte s.pc, s.readByte (s.pc + 1)] = .ok i

/-- A row of three bytes, a CB-prefixed row, and STOP, whose second byte is not read. -/
theorem witness_StepRunsTheDecodedInstruction :
    (∃ s : State, s.ir = 0x21#8 ∧ RunsNext s (.ldHlD16 0x1234#16)) ∧ (∃ s : State, s.ir = 0xCB#8 ∧ RunsNext s .sraH) ∧
    ∃ s : State, s.ir = 0x10#8 ∧ RunsNext s .stop :=
  ⟨⟨start 0x21#8 [(0x0101, 0x34#8), (0x0102, 0x12#8)], rfl, noReset_of_flat rfl rfl, rfl, spares_of_flat rfl _ _, rfl⟩,
    ⟨start 0xCB#8 [(0x0101, 0x2C#8)], rfl, noReset_of_flat rfl rfl, rfl, spares_of_flat rfl _ _, rfl⟩,
    ⟨start 0x10#8 [], rfl, noReset_of_flat rfl rfl, rfl, spares_of_flat rfl _ _, rfl⟩⟩

theorem witness_EveryStepKeepsTheInvariant :
    ∃ s t : State, s.Inv ∧ step s = .next t :=
  ⟨State.launch, _, ⟨rfl, rfl, rfl, rfl⟩, rfl⟩

theorem witness_FirstStepAfterResetFetchesAddressZero :
    ∃ s : State, s.AfterReset ∧ s.NoReset ∧ s.a ≠ State.reset.a :=
  ⟨{ State.reset with a := 0xAA#8, f := 0xF0#8 }, ⟨rfl, rfl, rfl, rfl, rfl, rfl⟩, noReset_of_flat rfl rfl, by decide⟩

/-- The second clause for PUSH BC, abandoned in its second cycle, and for a Stopped core; the third for PUSH BC, for HALT with
a line pending, and for a Halted core. -/
theorem witness_ResetAbandonsWhateverRuns :
    (∃ s : State, s.resetLine = true) ∧
    (∀ r ∈ [RunState.running, .stopped], ∃ (s t : State) (spent : List EnvCycle), s.run = r ∧ step s = .next t ∧
      s.env = spent ++ t.env ∧ ∃ c ∈ spent, EnvAction.reset ∈ c) ∧
    ∀ p ∈ [(RunState.running, 0xC5#8), (.running, 0x76#8), (.halted, 0x00#8)],
      ∃ (s : State) (c : EnvCycle) (rest : List EnvCycle), s.run = p.1 ∧ s.ir = p.2 ∧ s.resetLine = false ∧
        s.env = c :: rest ∧ EnvAction.reset ∈ c ∧
        (s.run = .halted ∨ s.run = .running ∧ 0 < s.stepCycles ∧ (s.ir = 0x76#8 → s.pending ≠ 0#8)) := by
  refine ⟨⟨{ State.launch with resetLine := true }, rfl⟩, fun r hr => ?_, fun p hp => ?_⟩
  · simp only [List.mem_cons, List.not_mem_nil, or_false] at hr
    rcases hr with rfl | rfl
    all_goals exact ⟨{ start 0xC5#8 [] with run := _, env := [[], [.reset], []] }, _, [[], [.reset]], rfl, rfl, rfl,
      [.reset], by simp, by simp⟩
  · refine ⟨{ start p.2 [(0xFF0F, 0x04#8), (0xFFFF, 0x1F#8)] with run := p.1, env := [[.reset], []] }, [.reset], [[]], rfl, rfl,
      rfl, rfl, by simp, ?_⟩
    simp only [List.mem_cons, List.not_mem_nil, or_false] at hp
    rcases hp with rfl | rfl | rfl <;> decide

theorem witness_OnlyStoppedAndLockedHaveNoStep :
    (∃ (s : State) (r : Fault), step s = .fault r) ∧
    (∃ s : State, s.NoReset ∧ s.run = .stopped) ∧ (∃ s : State, s.NoReset ∧ s.run = .locked) ∧
    ∃ s : State, s.IsStuck ∧ ∃ c ∈ s.env, EnvAction.reset ∈ c :=
  ⟨⟨{ State.launch with run := .stopped }, .stopped, rfl⟩,
    ⟨{ State.launch with run := .stopped }, noReset_of_flat rfl rfl, rfl⟩,
    ⟨{ State.launch with run := .locked }, noReset_of_flat rfl rfl, rfl⟩,
    ⟨{ State.launch with run := .locked, env := [[.reset]] }, .inr rfl, [.reset], by simp, by simp⟩⟩

theorem witness_RunningIsLeftOnlyByHaltStopAndIllegal :
    (∃ s t : State, s.NoReset ∧ s.run = .running ∧ step s = .next t ∧ t.run = .locked) ∧
    (∃ s t : State, s.NoReset ∧ s.run = .running ∧ step s = .next t ∧ t.run = .stopped) ∧
    ∃ s t : State, s.NoReset ∧ s.run = .running ∧ step s = .next t ∧ t.run = .halted :=
  ⟨⟨start 0xD3#8 [], _, noReset_of_flat rfl rfl, rfl, rfl, rfl⟩, ⟨start 0x10#8 [], _, noReset_of_flat rfl rfl, rfl, rfl, rfl⟩,
    ⟨start 0x76#8 [], _, noReset_of_flat rfl rfl, rfl, rfl, rfl⟩⟩

theorem witness_ImeRisesOnlyByEiAndReti :
    (∃ s t : State, s.ime = false ∧ s.eiPending = false ∧ step s = .next t ∧ t.ime = true) ∧
    ∃ (i : Instr) (s t : State), exec i s = .next t ∧ i ∉ [.di, .ei, .reti, .halt, .stop, .prefixCb] ∧
      ∀ op, i ≠ .illegal op :=
  ⟨⟨start 0xFB#8 [], _, rfl, rfl, rfl, rfl⟩, ⟨.pushAf, busy, _, rfl, by simp, by simp⟩⟩

theorem witness_IrHoldsTheByteBeforePc :
    ∃ s t : State, s.Flat ∧ step s = .next t ∧ t.run = .running ∧
      (s.run = .running → s.ir = 0x76#8 → Config.haltBug = false ∨ s.ime = true) :=
  ⟨start 0x00#8 [], _, ⟨rfl, rfl⟩, rfl, rfl, fun _ h => absurd h (by decide)⟩

theorem witness_AStepSpendsTheCyclesOfTheTable :
    ∃ s t : State, s.NoReset ∧ s.run = .running ∧ s.ir ≠ 0x76#8 ∧ step s = .next t ∧ s.ime = false ∧ s.ir ≠ 0xD9#8 :=
  ⟨start 0xC4#8 [(0x0102, 0x80#8)], _, noReset_of_flat rfl rfl, rfl, by decide, rfl, rfl, by decide⟩

/-- Timer and Joypad pending, as in R404's example. -/
def twoPending : State := start 0x00#8 [(0xFF0F, 0x14#8), (0xFFFF, 0xFF#8)]

theorem witness_HighestIsTheLowestPendingBit :
    ∃ s : State, s.readByte 0xFFFF#16 = 0xFF#8 ∧ s.readByte 0xFF0F#16 = 0x14#8 :=
  ⟨twoPending, by decide⟩

theorem witness_InterruptCheckDispatchesOrCommitsEi :
    (∃ s : State, s.ime = true ∧ s.pending ≠ 0#8) ∧ (∃ s : State, s.ime = false) ∧ ∃ s : State, s.ime = true ∧ s.pending = 0#8 :=
  ⟨⟨{ twoPending with ime := true }, by decide⟩, ⟨twoPending, rfl⟩, ⟨{ State.launch with ime := true }, by decide⟩⟩

theorem witness_DispatchSavesPcAndEntersTheHandler :
    ∃ (s : State) (addr : Word), s.NoReset ∧ s.EnvSpares 4 0x0050#16 ∧ s.EnvSpares 5 addr ∧ s.env ≠ [] :=
  ⟨busy, 0xC000#16, busy_noReset, by unfold State.EnvSpares; simp [busy, EnvAction.touches, Config.ifAddr], by
    unfold State.EnvSpares; simp [busy, EnvAction.touches, Config.ifAddr], by simp [busy]⟩

theorem witness_HaltedStepIdlesOrWakes :
    (∃ s : State, s.NoReset ∧ s.run = .halted ∧ s.pending = 0#8) ∧
    ∃ s : State, s.NoReset ∧ s.run = .halted ∧ s.pending ≠ 0#8 ∧ s.ime = false :=
  ⟨⟨{ busy with run := .halted }, busy_noReset, rfl, by decide⟩,
    ⟨{ twoPending with run := .halted }, noReset_of_flat rfl rfl, rfl, by decide, rfl⟩⟩

theorem witness_HaltHaltsOrFallsThrough :
    (∃ s : State, s.NoReset ∧ s.pending = 0#8) ∧ (∃ s : State, s.NoReset ∧ s.pending ≠ 0#8 ∧ s.ime = true) ∧
    ∃ s : State, s.NoReset ∧ s.pending ≠ 0#8 ∧ s.ime = false :=
  ⟨⟨busy, busy_noReset, by decide⟩, ⟨{ twoPending with ime := true }, noReset_of_flat rfl rfl, by decide, rfl⟩,
    ⟨twoPending, noReset_of_flat rfl rfl, by decide, rfl⟩⟩

theorem witness_EiLetsOneInstructionRun :
    ∃ s : State, s.NoReset ∧ s.run = .running ∧ s.ir = 0xFB#8 ∧ s.ime = false ∧ s.readByte s.pc = 0xF3#8 :=
  ⟨start 0xFB#8 [(0x0101, 0xF3#8)], noReset_of_flat rfl rfl, rfl, rfl, rfl, rfl⟩

/-- Timer pending with IME = 1, and a handler that is one RETI. -/
def returning : State :=
  { start 0x3C#8 [(0x0050, 0xD9#8), (0x0100, 0x3C#8), (0xFF0F, 0x04#8), (0xFFFF, 0x1F#8)] with ime := true }

theorem returning_pending : returning.pending = 0x04#8 := by decide

theorem witness_RetiResumesTheInterruptedProgram :
    ∃ (s : State) (n : Interrupt), s.Flat ∧ s.run = .running ∧ s.ime = true ∧ s.eiPending = false ∧ s.highest = some n ∧
      s.readByte (serviceAddress n) = 0xD9#8 ∧
      (∀ a ∈ [s.sp - 1, s.sp - 2], a ≠ 0xFFFF#16 ∧ a ≠ 0xFF0F#16 ∧ a ≠ serviceAddress n) ∧
      ∀ m, m ≠ n → s.pending &&& lineBit m = 0#8 :=
  ⟨returning, .timer, ⟨rfl, rfl⟩, rfl, rfl, rfl, by decide, by decide, fun a ha => by
    simp only [List.mem_cons, List.not_mem_nil, or_false] at ha
    rcases ha with rfl | rfl <;> decide, fun m h => by
    rw [returning_pending]
    cases m <;> first | decide | exact absurd rfl h⟩

theorem witness_StoreToIfOrIeIsSeenAtItsOwnBoundary :
    (∃ (s : State) (n : Interrupt), s.Flat ∧ s.run = .running ∧ s.ime = true ∧ s.ir = 0xE0#8 ∧
      s.readByte s.pc = loByte 0xFF0F#16 ∧ s.a &&& s.readByte 0xFFFF#16 &&& lineBit n ≠ 0#8 ∧
      ∀ m, (lineBit m).toNat < (lineBit n).toNat → s.a &&& s.readByte 0xFFFF#16 &&& lineBit m = 0#8) ∧
    ∃ (s : State) (n : Interrupt), s.Flat ∧ s.run = .running ∧ s.ime = true ∧ s.ir = 0xE0#8 ∧
      s.readByte s.pc = loByte 0xFFFF#16 ∧ s.a &&& s.readByte 0xFF0F#16 &&& lineBit n ≠ 0#8 ∧
      ∀ m, (lineBit m).toNat < (lineBit n).toNat → s.a &&& s.readByte 0xFF0F#16 &&& lineBit m = 0#8 :=
  ⟨⟨{ start 0xE0#8 [(0x0101, 0x0F#8), (0xFFFF, 0x14#8)] with ime := true, a := 0x1C#8 }, .timer, ⟨rfl, rfl⟩, rfl, rfl, rfl,
    by decide, by decide, fun m _ => by cases m <;> first | decide | (revert ‹_ < _›; decide)⟩,
    ⟨{ start 0xE0#8 [(0x0101, 0xFF#8), (0xFF0F, 0x10#8)] with ime := true, a := 0x11#8 }, .joypad, ⟨rfl, rfl⟩, rfl, rfl, rfl,
    by decide, by decide, fun m _ => by cases m <;> first | decide | (revert ‹_ < _›; decide)⟩⟩

/-- LD (HL),A at the next opcode, and at the byte after it. -/
theorem witness_AStoreToTheNextOpcodeIsFetched :
    ∀ l ∈ [0x01#8, 0x02#8], ∃ s : State, s.NoReset ∧ s.run = .running ∧ s.ime = false ∧ s.ir = 0x77#8 ∧
      s.hl = s.pc + BitVec.ofNat 16 (l.toNat - 1) ∧ s.EnvSpares 1 s.pc ∧ s.EnvSpares 2 s.hl ∧ s.EnvSpares 1 (s.pc + 1) := by
  intro l hl
  refine ⟨{ start 0x77#8 [] with a := 0x3C#8, h := 0x01#8, l := l }, noReset_of_flat rfl rfl, rfl, rfl, rfl, ?_,
    spares_of_flat rfl _ _, spares_of_flat rfl _ _, spares_of_flat rfl _ _⟩
  simp only [List.mem_cons, List.not_mem_nil, or_false] at hl
  rcases hl with rfl | rfl <;> decide

theorem witness_TheEnvironmentActsAfterTheTransaction :
    (∃ (s : State) (addr : Word) (v : Byte) (rest : List EnvCycle), s.resetLine = false ∧
      s.env = [.write addr v] :: rest) ∧
    ∃ (s : State) (n : Interrupt) (rest : List EnvCycle), s.resetLine = false ∧ s.env = [.request n] :: rest :=
  ⟨⟨{ State.launch with env := [[.write 0x0100#16 0x3C#8]] }, _, _, _, rfl, rfl⟩, ⟨busy, _, _, rfl, rfl⟩⟩

theorem witness_EqualBytesMakeEqualMemories :
    ∃ m m' : Memory, m.wf = true ∧ m'.wf = true ∧ ∀ addr : Word, m.read addr.toNat = m'.read addr.toNat :=
  ⟨[(0x0000, 0x01#8), (0xFFFF, 0x02#8)], (Memory.write [(0xFFFF, 0x02#8)] 0 0x01#8), by decide, by decide, fun _ => rfl⟩

theorem witness_ByteLoadsCopyTheirOperand :
    ∃ (x r : R8) (s : State), ¬(x = .atHl ∧ r = .atHl) ∧ s.NoReset :=
  ⟨.h, .atHl, busy, by simp, busy_noReset⟩

theorem witness_BitResAndSet :
    ∃ (n : Nat) (s : State), n < 8 ∧ s.NoReset :=
  ⟨7, busy, by decide, busy_noReset⟩

theorem witness_JumpsSetPc :
    (∃ s : State, s.NoReset ∧ (!s.f.getLsbD 7) = true) ∧ ∃ s : State, s.NoReset ∧ (!s.f.getLsbD 7) = false :=
  ⟨⟨busy, busy_noReset, rfl⟩, ⟨{ busy with f := 0x80#8 }, busy_noReset, rfl⟩⟩

theorem witness_CallsAndRestartsPushPc :
    (∃ (s : State) (n : Nat), s.NoReset ∧ n < 8 ∧ s.cond .nc = true) ∧ ∃ s : State, s.NoReset ∧ s.cond .nc = false :=
  ⟨⟨busy, 7, busy_noReset, by decide, rfl⟩, ⟨{ busy with f := 0x10#8 }, busy_noReset, rfl⟩⟩

theorem witness_ReturnsPopPc :
    (∃ s : State, s.NoReset ∧ s.EnvSpares 1 (s.sp + 1) ∧ s.cond .z = false) ∧
    ∃ s : State, s.NoReset ∧ s.cond .z = true ∧ s.EnvSpares 1 s.sp ∧ s.EnvSpares 2 (s.sp + 1) :=
  ⟨⟨State.launch, launch_noReset, spares_of_flat rfl _ _, rfl⟩,
    ⟨{ State.launch with f := 0x80#8 }, launch_noReset, rfl, spares_of_flat rfl _ _, spares_of_flat rfl _ _⟩⟩

theorem witness_PushAndPopMoveAPair :
    ∃ s : State, s.NoReset ∧ s.EnvSpares 1 (s.sp + 1) :=
  ⟨State.launch, launch_noReset, spares_of_flat rfl _ _⟩

theorem witness_RetUndoesCall :
    ∃ s : State, s.Flat :=
  ⟨{ State.launch with sp := 0x0001#16 }, rfl, rfl⟩

theorem witness_PopAfterPushMovesThePair :
    ∃ s : State, s.Flat :=
  ⟨{ State.launch with sp := 0x0001#16 }, rfl, rfl⟩

end Sys2Proof.Tests
end

section
/-! PROOFS. The canonical form of memory is canonical (log 2), and the register pairs (R22, R23). -/

namespace Sys2Proof.Machine

/-! ### The canonical form -/

theorem Memory.read_head (k : Nat) (v : Byte) (m : Memory) : Memory.read ((k, v) :: m) k = v := by
  rw [Memory.read, if_pos rfl]

/-- A memory in canonical form that reads at `k` as one whose first entry is at `k` begins at `k` or below it: otherwise it
would read as unlisted there. -/
theorem Memory.head_le_of_read_eq {k k' lo : Nat} {v v' : Byte} {m m' : Memory} (hv : v ≠ Memory.unlisted)
    (h' : Memory.wfFrom lo ((k', v') :: m') = true)
    (heq : Memory.read ((k, v) :: m) k = Memory.read ((k', v') :: m') k) : k' ≤ k := by
  obtain ⟨-, hk', hv', hm'⟩ := Memory.wfFrom_cons.mp h'
  by_contra hlt
  have hfrom : Memory.wfFrom k' ((k', v') :: m') = true := Memory.wfFrom_cons.mpr ⟨le_rfl, hk', hv', hm'⟩
  have hunlisted := Memory.read_below hfrom (Nat.lt_of_not_le hlt)
  exact hv (by rw [← Memory.read_head k v m, heq, hunlisted])

theorem Memory.eq_of_read_eq {m m' : Memory} {lo : Nat} (h : m.wfFrom lo = true) (h' : m'.wfFrom lo = true)
    (heq : ∀ n < 65536, m.read n = m'.read n) : m = m' := by
  induction m generalizing m' lo with
  | nil =>
    cases m' with
    | nil => rfl
    | cons x m' =>
      obtain ⟨k, v⟩ := x
      obtain ⟨-, hk, hv, -⟩ := Memory.wfFrom_cons.mp h'
      exact absurd ((Memory.read_head k v m').symm.trans (heq k hk).symm) hv
  | cons x m ih =>
    obtain ⟨k, v⟩ := x
    obtain ⟨-, hk, hv, hm⟩ := Memory.wfFrom_cons.mp h
    cases m' with
    | nil => exact absurd ((Memory.read_head k v m).symm.trans (heq k hk)) hv
    | cons x' m' =>
      obtain ⟨k', v'⟩ := x'
      obtain ⟨-, hk', hv', hm'⟩ := Memory.wfFrom_cons.mp h'
      obtain rfl : k' = k := le_antisymm (Memory.head_le_of_read_eq hv h' (heq k hk))
        (Memory.head_le_of_read_eq hv' h (heq k' hk').symm)
      obtain rfl : v = v' := by simpa only [Memory.read_head] using heq k' hk
      have htail : ∀ n < 65536, Memory.read m n = Memory.read m' n := fun n hn => by
        by_cases hnk : n = k'
        · subst hnk
          rw [Memory.read_below hm (Nat.lt_succ_self n), Memory.read_below hm' (Nat.lt_succ_self n)]
        · simpa only [Memory.read, if_neg hnk] using heq n hn
      rw [ih hm hm' htail]

/-- Settles O40, by induction on the first memory: the two begin at the same address with the same byte, since each reads as
unlisted below its first entry. -/
theorem equalBytesMakeEqualMemories : Obligations.EqualBytesMakeEqualMemories := by
  unfold Obligations.EqualBytesMakeEqualMemories
  intro m m' h h' heq
  refine Memory.eq_of_read_eq h h' fun n hn => ?_
  simpa only [BitVec.toNat_ofNat, Nat.mod_eq_of_lt hn] using heq (BitVec.ofNat 16 n)

/-! ### The register pairs -/

theorem toNat_and_F0 : ∀ l : Byte, (l &&& 0xF0#8).toNat = l.toNat - l.toNat % 16 := by decide

/-- The value of AF when F is stored with its low nibble clear (R28). -/
theorem toNat_pair_and_F0 (h l : Byte) :
    (pair h (l &&& 0xF0#8)).toNat = h.toNat * 256 + l.toNat - l.toNat % 16 := by
  rw [pair_toNat, toNat_and_F0, Nat.add_sub_assoc (Nat.mod_le _ _)]

/-- Settles O18: a pair counts `h * 256 + l` (`pair_toNat`), and its halves are what it was made of. -/
theorem pairsAreTheirHalves : Obligations.PairsAreTheirHalves := by
  unfold Obligations.PairsAreTheirHalves
  intro s h l
  refine ⟨⟨pair_toNat h l, rfl, rfl, ?_, rfl, rfl⟩, ⟨pair_toNat h l, rfl, rfl, ?_, rfl, rfl⟩,
    ⟨pair_toNat h l, rfl, rfl, ?_, rfl, rfl⟩, ⟨toNat_pair_and_F0 h l, rfl, rfl, ?_, rfl, rfl⟩⟩
  · rw [State.setBC, hiByte_pair, loByte_pair]
  · rw [State.setDE, hiByte_pair, loByte_pair]
  · rw [State.setHL, hiByte_pair, loByte_pair]
  · rw [State.setAF, hiByte_pair, loByte_pair]

end Sys2Proof.Machine
end

section
/-! PROOFS. The instructions that manage their own fetch, HALT, STOP and the illegal opcodes (R211): decoding one reads no
immediate (R90, R102). -/

namespace Sys2Proof

/-! ### No family with an immediate has a row that manages its own fetch -/

@[simp] theorem Instr.ownFetch_ld16Imm (p : Rp) (v : Word) : (Instr.ld16Imm p v).ownFetch = false := by cases p <;> rfl
@[simp] theorem Instr.ownFetch_ld8Imm (r : R8) (v : Byte) : (Instr.ld8Imm r v).ownFetch = false := by cases r <;> rfl
@[simp] theorem Instr.ownFetch_alu8Imm (x : AluOp) (v : Byte) : (Instr.alu8Imm x v).ownFetch = false := by
  cases x <;> rfl
@[simp] theorem Instr.ownFetch_jrCc (q : Cond) (e : Byte) : (Instr.jrCc q e).ownFetch = false := by cases q <;> rfl
@[simp] theorem Instr.ownFetch_jpCc (q : Cond) (a : Word) : (Instr.jpCc q a).ownFetch = false := by cases q <;> rfl
@[simp] theorem Instr.ownFetch_callCc (q : Cond) (a : Word) : (Instr.callCc q a).ownFetch = false := by cases q <;> rfl

/-! ### Whether an instruction manages its own fetch does not depend on its immediates -/

theorem ownFetch_decodeBlock0 (op v v' : Byte) (w w' : Word) :
    (decodeBlock0 op v w).ownFetch = (decodeBlock0 op v' w').ownFetch := by
  unfold decodeBlock0
  split
  case h_1 =>
    split
    case h_5 => simp only [Instr.ownFetch_jrCc]
    all_goals rfl
  case h_2 => simp only [apply_ite Instr.ownFetch, Instr.ownFetch_ld16Imm]
  case h_7 => simp only [Instr.ownFetch_ld8Imm]
  all_goals rfl

theorem ownFetch_decodeBlock3 (op v v' : Byte) (w w' : Word) :
    (decodeBlock3 op v w).ownFetch = (decodeBlock3 op v' w').ownFetch := by
  unfold decodeBlock3
  split
  case h_3 =>
    split
    case h_5 => simp only [Instr.ownFetch_jpCc]
    all_goals rfl
  case h_5 =>
    split
    case h_5 => rfl
    all_goals simp only [Instr.ownFetch_callCc]
  case h_6 =>
    split
    · rfl
    · split <;> rfl
  case h_7 => simp only [Instr.ownFetch_alu8Imm]
  case h_1 | h_4 => split <;> rfl
  all_goals rfl

theorem ownFetch_decodeUnprefixed (op b1 b2 : Byte) :
    (decodeUnprefixed op b1 b2).ownFetch = (decodeUnprefixed op 0#8 0#8).ownFetch := by
  unfold decodeUnprefixed
  split
  · exact ownFetch_decodeBlock0 op b1 0#8 _ _
  · rfl
  · rfl
  · exact ownFetch_decodeBlock3 op b1 0#8 _ _

theorem operandCount_of_ownFetch :
    ∀ op : Byte, (decodeUnprefixed op 0#8 0#8).ownFetch = true → operandCount op = 0 := by decide

theorem opcode_of_decode_halt : ∀ op : Byte, decodeUnprefixed op 0#8 0#8 = .halt → op = 0x76#8 := by decide

theorem ownFetch_decodePrefixed : ∀ op2 : Byte, (decodePrefixed op2).ownFetch = false := by decide

theorem Instr.ownFetch_cases {i : Instr} (h : i.ownFetch = true) : i = .halt ∨ i = .stop ∨ ∃ op, i = .illegal op := by
  unfold Instr.ownFetch at h
  split at h
  · exact .inl rfl
  · exact .inr (.inl rfl)
  · exact .inr (.inr ⟨_, rfl⟩)
  · cases h

namespace Machine

theorem fetchInstr_of_noOperand {s : State} (h : operandCount s.ir = 0) :
    s.fetchInstr = (decodeUnprefixed s.ir 0#8 0#8, s) := by
  simp only [State.fetchInstr, h]

theorem fetchInstr_fst_ownFetch (s : State) :
    s.fetchInstr.1.ownFetch = (decodeUnprefixed s.ir 0#8 0#8).ownFetch := by
  unfold State.fetchInstr
  split <;> exact ownFetch_decodeUnprefixed _ _ _

/-- An instruction that manages its own fetch is decoded without reading an immediate. -/
theorem operandCount_of_fetchInstr {s : State} (h : s.fetchInstr.1.ownFetch = true) : operandCount s.ir = 0 :=
  operandCount_of_ownFetch s.ir (fetchInstr_fst_ownFetch s ▸ h)

end Machine

end Sys2Proof
end

section
/-! PROOFS. How a step ends, said once: with `FetchNext`, with HALT's own fetch, or stuck (R211, R222, R223). -/

namespace Sys2Proof.Machine

/-! ### The end of a Running step -/

/-- The step of an unprefixed instruction without an immediate. -/
theorem stepRunning_of_noOperand {s u : State} {i : Instr} (hn : operandCount s.ir = 0)
    (hd : decodeUnprefixed s.ir 0#8 0#8 = i) (hp : i.selectsPrefixed = false) (he : exec i s = .next u) :
    stepRunning s = .next (u.postFetch i) := by
  simp [stepRunning, fetchInstr_of_noOperand hn, hd, he, hp]

theorem postFetch_of_ownFetch_false {i : Instr} (h : i.ownFetch = false) (s : State) :
    s.postFetch i = s.fetchNext.settle := by
  simp [State.postFetch, h]

/-- A Running step ends in `FetchNext` from a state that the primitives reach, or it is HALT, or it ends in another run state
than Running (R211). -/
theorem stepRunning_ends {P : State → Prop} (hP : ClosedLocal P) {s : State} (h : P s) :
    (∃ u, P u ∧ stepRunning s = .next u.fetchNext.settle) ∨
      (s.ir = 0x76#8 ∧ stepRunning s = .next (s.haltWith Config.haltBug).settle) ∨
      ∃ r, r ≠ .running ∧ stepRunning s = .next (s.setRun r).settle := by
  cases ho : s.fetchInstr.1.ownFetch with
  | true =>
    have hn := operandCount_of_fetchInstr ho
    rw [fetchInstr_of_noOperand hn] at ho
    obtain hi | hi | ⟨op, hi⟩ := Instr.ownFetch_cases ho
    · exact .inr (.inl ⟨opcode_of_decode_halt _ hi, stepRunning_of_noOperand hn hi rfl rfl⟩)
    · exact .inr (.inr ⟨.stopped, by decide, stepRunning_of_noOperand hn hi rfl rfl⟩)
    · exact .inr (.inr ⟨.locked, by decide, stepRunning_of_noOperand hn hi rfl rfl⟩)
  | false =>
    have hne : s.fetchInstr.1 ≠ .halt := fun hi => by simp [hi, Instr.ownFetch] at ho
    obtain ⟨u, hu, hPu⟩ := exec_closedLocal hP hne (hP.fetchInstr h)
    unfold stepRunning
    simp only [hu]
    split
    · obtain ⟨w, hw, hPw⟩ := exec_closedLocal hP (decodePrefixed_ne_halt u.ir) hPu
      simp only [hw, postFetch_of_ownFetch_false (ownFetch_decodePrefixed u.ir)]
      exact .inl ⟨w, hPw, rfl⟩
    · rw [postFetch_of_ownFetch_false ho]
      exact .inl ⟨u, hPu, rfl⟩

theorem step_running {s : State} (hl : s.resetLine = false) (hr : s.run = .running) : step s = stepRunning s := by
  simp [step, hl, hr]

/-! ### What the interrupt check leaves -/

theorem emits_commitEi (s : State) : Emits s s.commitEi [] := by
  unfold State.commitEi
  split <;> exact .none rfl rfl rfl rfl

theorem commitEi_regs (s : State) :
    s.commitEi.regs = { s.regs with ime := s.eiPending || s.ime, eiPending := false } := by
  unfold State.commitEi
  split
  · simp [State.regs, *]
  · simp [State.regs, *]

/-- No EI is waiting after a dispatch, nor after the check that makes none (R215, R406). -/
theorem interruptCheck_eiPending (s : State) : s.interruptCheck.eiPending = false := by
  unfold State.interruptCheck
  split
  · simp [State.dispatch, State.fetchOpcode]
  · exact congrArg Regs.eiPending (commitEi_regs s)

/-- With IME = 0 nothing is dispatched (R405). -/
theorem interruptCheck_of_ime_false {s : State} (h : s.ime = false) : s.interruptCheck = s.commitEi := by
  simp [State.interruptCheck, h]

/-- A dispatch ends in the fetch of the handler's first opcode (R406). -/
theorem ClosedControl.dispatch_ends {P : State → Prop} (hP : ClosedControl P) {s : State} (n : Interrupt) (h : P s) :
    ∃ u, P u ∧ s.dispatch n = u.fetchOpcode :=
  ⟨_, hP.setPc _ _ (hP.acknowledge n (hP.setEiPending _ _ (hP.setIme _ _
    (hP.push16 _ (hP.idle _ (hP.idle _ (hP.setPc _ _ h))))))), rfl⟩

end Sys2Proof.Machine
end

section
/-! PROOFS. The invariant of the machine (`State.Inv`, Sys2Proof/Safety.lean). -/

namespace Sys2Proof.Machine

/-! ### The part of the invariant that every primitive keeps -/

/-- Memory is canonical and F[3:0] is 0. -/
def State.Canonical (s : State) : Prop := s.mem.wf = true ∧ s.FlagsClean

theorem State.Canonical.of_f {s t : State} (h : s.Canonical) (hm : t.mem.wf = true) (hf : t.f = s.f) : t.Canonical :=
  ⟨hm, by rw [State.FlagsClean, hf]; exact h.2⟩

theorem flagsClean_setF (s : State) (v : Byte) : (s.setF v).FlagsClean := by
  rw [State.FlagsClean, setF_f, BitVec.and_assoc]
  exact BitVec.and_zero

theorem canonical_closed : ClosedControl State.Canonical where
  setA _ _ h := h
  setF s v h := ⟨h.1, flagsClean_setF s v⟩
  setB _ _ h := h
  setC _ _ h := h
  setD _ _ h := h
  setE _ _ h := h
  setH _ _ h := h
  setL _ _ h := h
  setSp _ _ h := h
  setPc _ _ h := h
  idle s h := h.of_f (idle_wf h.1) (idle_f s)
  memRead s a h := h.of_f (memRead_wf a h.1) (cycle_f s _)
  memWrite s a v h := h.of_f (memWrite_wf a v h.1) (memWrite_f s a v)
  setIr _ _ h := h
  setIme _ _ h := h
  setEiPending _ _ h := h
  setRun _ _ h := h
  sideWrite s a v h := h.of_f (sideWrite_wf a v h.1) (sideWrite_f s a v)

/-! ### Reset and the end of a step -/

theorem applyReset_inv {s : State} (h : s.mem.wf = true) : s.applyReset.Inv := ⟨h, BitVec.zero_and, rfl, rfl⟩

theorem settle_inv {s : State} (h : s.Canonical) (he : s.eiPending = false) : s.settle.Inv := by
  unfold State.settle
  split
  case isTrue => exact applyReset_inv h.1
  case isFalse hl => exact ⟨h.1, h.2, he, Bool.eq_false_of_not_eq_true hl⟩

theorem resetInScript_inv {env : List EnvCycle} {s t : State} (hm : s.mem.wf = true)
    (h : resetInScript env s = some t) : t.Inv := by
  induction env generalizing s with
  | nil => cases h
  | cons c rest ih =>
    have hacts : ((s.setEnv rest).acts c).mem.wf = true := acts_wf c hm
    unfold resetInScript at h
    split at h
    · cases h
      exact applyReset_inv hacts
    · exact ih hacts h

theorem stuck_inv {s t : State} {why : Fault} (hm : s.mem.wf = true) (h : s.stuck why = .next t) : t.Inv := by
  unfold State.stuck at h
  split at h
  · cases h
    exact resetInScript_inv hm ‹_›
  · cases h

/-! ### A waiting EI does not outlast its boundary -/

theorem haltWith_eiPending {s : State} (h : s.eiPending = false) (bug : Bool) : (s.haltWith bug).eiPending = false := by
  unfold State.haltWith
  split
  · split
    · exact interruptCheck_eiPending _
    · exact interruptCheck_eiPending _
  · exact h

theorem stepHalted_eiPending {s : State} (h : s.eiPending = false) : s.stepHalted.eiPending = false := by
  unfold State.stepHalted
  split
  · exact interruptCheck_eiPending _
  · rw [idle_eiPending, h]

theorem stepRunning_inv {s t : State} (hc : s.Canonical) (he : s.eiPending = false) (h : stepRunning s = .next t) :
    t.Inv := by
  have hP := canonical_closed
  obtain ⟨u, hu, hs⟩ | ⟨-, hs⟩ | ⟨r, -, hs⟩ := stepRunning_ends hP.toClosedLocal hc
  · cases hs.symm.trans h
    exact settle_inv (hP.fetchNext hu) (interruptCheck_eiPending _)
  · cases hs.symm.trans h
    exact settle_inv (hP.haltWith _ hc) (haltWith_eiPending he _)
  · cases hs.symm.trans h
    exact settle_inv hc he

/-- Settles O20: the primitives keep the canonical memory and F[3:0], the interrupt check leaves no EI waiting, and the end of
a step serves the reset that came during it. -/
theorem everyStepKeepsTheInvariant : Obligations.EveryStepKeepsTheInvariant := by
  unfold Obligations.EveryStepKeepsTheInvariant
  intro s t ⟨hm, hf, he, hl⟩ h
  unfold step at h
  rw [hl, if_neg (by decide)] at h
  split at h
  · exact stepRunning_inv ⟨hm, hf⟩ he h
  · cases h
    exact settle_inv (canonical_closed.stepHalted ⟨hm, hf⟩) (stepHalted_eiPending he)
  · exact stuck_inv hm h
  · exact stuck_inv hm h

/-- Settles O21: the reset state is what a reset makes of it. -/
theorem resetMeetsTheInvariant : Obligations.ResetMeetsTheInvariant := by
  unfold Obligations.ResetMeetsTheInvariant
  exact applyReset_inv (s := State.reset) rfl

end Sys2Proof.Machine
end

section
/-! PROOFS. The prefetch invariant over plain memory (R27). -/

namespace Sys2Proof.Machine

/-! ### Plain memory stays plain -/

theorem State.Flat.noReset {s : State} (h : s.Flat) : s.NoReset := ⟨h.1, by simp [h.2]⟩

theorem Emits.flat {s t : State} {cs : List BusCycle} (h : Emits s t cs) (hs : s.Flat) : t.Flat :=
  ⟨h.line.trans hs.1, by rw [h.env, hs.2, List.drop_nil]⟩

theorem flat_closed : ClosedControl State.Flat where
  setA _ _ h := h
  setF _ _ h := h
  setB _ _ h := h
  setC _ _ h := h
  setD _ _ h := h
  setE _ _ h := h
  setH _ _ h := h
  setL _ _ h := h
  setSp _ _ h := h
  setPc _ _ h := h
  idle _ h := (emits_idle h.noReset).flat h
  memRead _ a h := (emits_memRead h.noReset a).flat h
  memWrite _ a v h := (emits_memWrite h.noReset a v).flat h
  setIr _ _ h := h
  setIme _ _ h := h
  setEiPending _ _ h := h
  setRun _ _ h := h
  sideWrite s a v h := by
    rw [State.sideWrite, h.1]
    exact h

/-- Over plain memory no step of a stuck core answers a state (R223). -/
theorem stuck_flat {s : State} (h : s.Flat) (why : Fault) : s.stuck why = .fault why := by
  rw [State.stuck, h.2]
  rfl

/-! ### The prefetch -/

/-- IR holds the byte before PC (R27). -/
def State.Prefetched (s : State) : Prop := s.ir = s.readByte (s.pc - 1)

theorem fetchOpcode_prefetched {s : State} (h : s.Flat) : s.fetchOpcode.Prefetched := by
  have hmem : s.fetchOpcode.readByte s.pc = s.readByte s.pc :=
    (emits_fetchOpcode h.noReset).mem s.pc (by simp [State.EnvSpares, h.2])
  have hir : s.fetchOpcode.ir = s.readByte s.pc := congrArg Regs.ir (fetchOpcode_regs s)
  have hpc : s.fetchOpcode.pc = s.pc + 1 := congrArg Regs.pc (fetchOpcode_regs s)
  rw [State.Prefetched, hir, hpc, BitVec.add_sub_cancel, hmem]

theorem commitEi_prefetched {s : State} (h : s.Prefetched) : s.commitEi.Prefetched := by
  unfold State.commitEi
  split
  · exact h
  · exact h

/-- The check keeps the prefetch: a dispatch fetches anew. -/
theorem interruptCheck_prefetched {s : State} (hf : s.Flat) (h : s.Prefetched) : s.interruptCheck.Prefetched := by
  unfold State.interruptCheck
  split
  · obtain ⟨u, hu, he⟩ := flat_closed.dispatch_ends _ hf
    rw [he]
    exact fetchOpcode_prefetched hu
  · exact commitEi_prefetched h

theorem fetchNext_prefetched {s : State} (h : s.Flat) : s.fetchNext.Prefetched :=
  interruptCheck_prefetched (flat_closed.fetchOpcode h) (fetchOpcode_prefetched h)

/-- HALT but for its exception under `HALT_BUG` with IME = 0 (R293). -/
theorem haltWith_of_no_bug {s : State} {bug : Bool} (hb : bug = false ∨ s.ime = true) :
    s.haltWith bug = if s.pending ≠ 0#8 then s.fetchNext else s.setRun .halted := by
  rcases hb with hb | hb
  · simp [State.haltWith, hb]
  · simp [State.haltWith, hb]

theorem haltWith_prefetched {s : State} (h : s.Flat) {bug : Bool} (hb : bug = false ∨ s.ime = true)
    (hr : (s.haltWith bug).run = .running) : (s.haltWith bug).Prefetched := by
  rw [haltWith_of_no_bug hb] at hr ⊢
  by_cases hp : s.pending ≠ 0#8
  · rw [if_pos hp]
    exact fetchNext_prefetched h
  · rw [if_neg hp] at hr
    nomatch hr

theorem stepHalted_prefetched {s : State} (h : s.Flat) (hs : s.run = .halted) (hr : s.stepHalted.run = .running) :
    s.stepHalted.Prefetched := by
  unfold State.stepHalted at hr ⊢
  by_cases hp : s.pending ≠ 0#8
  · rw [if_pos hp]
    exact fetchNext_prefetched (flat_closed.setRun _ _ h)
  · rw [if_neg hp, idle_run, hs] at hr
    nomatch hr

theorem stepRunning_prefetched {s t : State} (hf : s.Flat) (h : stepRunning s = .next t) (hr : t.run = .running)
    (hb : s.ir = 0x76#8 → Config.haltBug = false ∨ s.ime = true) : t.Prefetched := by
  have hP := flat_closed
  obtain ⟨u, hu, hs⟩ | ⟨hi, hs⟩ | ⟨r, hne, hs⟩ := stepRunning_ends hP.toClosedLocal hf
  · rw [settle_noReset (hP.fetchNext hu).noReset] at hs
    cases hs.symm.trans h
    exact fetchNext_prefetched hu
  · rw [settle_noReset (hP.haltWith _ hf).noReset] at hs
    cases hs.symm.trans h
    exact haltWith_prefetched hf (hb hi) hr
  · rw [settle_noReset (s := s.setRun r) hf.noReset] at hs
    cases hs.symm.trans h
    exact absurd hr hne

/-- Settles O28: a Running step that leaves the core Running ends in a fetch, its own or the dispatch's, and so does a Halted
step that wakes. -/
theorem irHoldsTheByteBeforePc : Obligations.IrHoldsTheByteBeforePc := by
  unfold Obligations.IrHoldsTheByteBeforePc
  intro s t hf h hr hb
  unfold step at h
  rw [hf.1, if_neg (by decide)] at h
  split at h
  case h_1 hs => exact stepRunning_prefetched hf h hr (hb hs)
  case h_2 hs =>
    rw [settle_noReset (flat_closed.stepHalted hf).noReset] at h
    cases h
    exact stepHalted_prefetched hf hs hr
  case h_3 => cases (stuck_flat hf _).symm.trans h
  case h_4 => cases (stuck_flat hf _).symm.trans h

end Sys2Proof.Machine
end

section
/-! PROOFS. EI's own boundary (R32, R339, R454). -/

namespace Sys2Proof.Machine

theorem fetchNext_of_ime_false {s : State} (h : s.ime = false) : s.fetchNext = s.fetchOpcode.commitEi :=
  interruptCheck_of_ime_false ((congrArg Regs.ime (fetchOpcode_regs s)).trans h)

theorem fetchNext_regs_of_ime_false {s : State} (h : s.ime = false) :
    s.fetchNext.regs =
      { s.regs with ir := s.readByte s.pc, pc := s.pc + 1, ime := s.eiPending, eiPending := false } := by
  have hime : s.fetchOpcode.ime = false := (congrArg Regs.ime (fetchOpcode_regs s)).trans h
  have hei : s.fetchOpcode.eiPending = s.eiPending := congrArg Regs.eiPending (fetchOpcode_regs s)
  rw [fetchNext_of_ime_false h, commitEi_regs, fetchOpcode_regs, hime, hei, Bool.or_false]

theorem emits_fetchNext_of_ime_false {s : State} (hs : s.NoReset) (h : s.ime = false) :
    Emits s s.fetchNext [.read s.pc (s.readByte s.pc)] := by
  rw [fetchNext_of_ime_false h]
  exact (emits_fetchOpcode hs).trans (emits_commitEi _)

/-- The step of a one-byte instruction that spends no cycle itself and after which IME is 0: it fetches the next opcode,
commits a waiting EI, and dispatches nothing. -/
theorem step_without_dispatch {s u : State} {i : Instr} (hs : s.NoReset) (hr : s.run = .running)
    (hn : operandCount s.ir = 0) (hd : decodeUnprefixed s.ir 0#8 0#8 = i) (hp : i.selectsPrefixed = false)
    (ho : i.ownFetch = false) (he : exec i s = .next u) (hu : Emits s u []) (hime : u.ime = false) :
    ∃ t, step s = .next t ∧
      t.regs = { u.regs with ir := u.readByte u.pc, pc := u.pc + 1, ime := u.eiPending, eiPending := false } ∧
      Emits s t [.read u.pc (u.readByte u.pc)] := by
  have hfetch := emits_fetchNext_of_ime_false (hu.noReset hs) hime
  refine ⟨u.fetchNext, ?_, fetchNext_regs_of_ime_false hime, hu.trans hfetch⟩
  rw [step_running hs.1 hr, stepRunning_of_noOperand hn hd hp he, postFetch_of_ownFetch_false ho,
    settle_noReset (hfetch.noReset (hu.noReset hs))]

theorem step_ei {s : State} (hs : s.NoReset) (hr : s.run = .running) (hi : s.ir = 0xFB#8) (hime : s.ime = false) :
    ∃ t, step s = .next t ∧
      t.regs = { s.regs with ir := s.readByte s.pc, pc := s.pc + 1, ime := true, eiPending := false } ∧
      Emits s t [.read s.pc (s.readByte s.pc)] :=
  step_without_dispatch (u := s.setEiPending true) (i := .ei) hs hr (by rw [hi]; rfl) (by rw [hi]; rfl) rfl rfl rfl
    (.none rfl rfl rfl rfl) hime

theorem step_di {s : State} (hs : s.NoReset) (hr : s.run = .running) (hi : s.ir = 0xF3#8) :
    ∃ t, step s = .next t ∧
      t.regs = { s.regs with ir := s.readByte s.pc, pc := s.pc + 1, ime := false, eiPending := false } ∧
      Emits s t [.read s.pc (s.readByte s.pc)] :=
  step_without_dispatch (u := s.disableInterrupts) (i := .di) hs hr (by rw [hi]; rfl) (by rw [hi]; rfl) rfl rfl rfl
    (.none rfl rfl rfl rfl) rfl

/-- Settles O35: the check of EI's own step still sees IME = 0 and commits EI; DI has cleared IME before the check of its
step. -/
theorem eiLetsOneInstructionRun : Obligations.EiLetsOneInstructionRun := by
  unfold Obligations.EiLetsOneInstructionRun
  intro s hs hr hi hime
  obtain ⟨t, hstep, hregs, hemits⟩ := step_ei hs hr hi hime
  refine ⟨t, hstep, hregs, hemits, fun hdi => ?_⟩
  have htr : t.run = .running := (congrArg Regs.run hregs).trans hr
  have htir : t.ir = 0xF3#8 := (congrArg Regs.ir hregs).trans hdi
  have htei : t.eiPending = false := congrArg Regs.eiPending hregs
  obtain ⟨u, hu, huregs, huemits⟩ := step_di (hemits.noReset hs) htr htir
  refine ⟨u, hu, ?_, huemits⟩
  rw [huregs, ← htei]
  rfl

end Sys2Proof.Machine
end

section
/-! PROOFS. What a machine cycle leaves in memory (R61, R71), and the coherence of instruction fetch with stores (R72). -/

namespace Sys2Proof.Machine

/-! ### The environment's one action in a cycle -/

/-- Bytes after a cycle in which the environment does the one thing `x`: those that `x` leaves. -/
theorem cycle_readByte_of_action {s : State} {x : EnvAction} {rest : List EnvCycle} (hl : s.resetLine = false)
    (he : s.env = [x] :: rest) (k : BusCycle) (addr : Word) :
    (s.cycle k).readByte addr = (s.act x).readByte addr := by
  have htick : s.cycle k = ((s.setTrace (k :: s.trace)).setEnv rest).act x := by
    simp [cycle_eq hl, State.tick, he, State.acts]
  rw [htick]
  cases x <;> rfl

theorem memWrite_readByte_of_action {s : State} {x : EnvAction} {rest : List EnvCycle} (hl : s.resetLine = false)
    (he : s.env = [x] :: rest) (a addr : Word) (v : Byte) :
    (s.memWrite a v).readByte addr = ((s.putByte a v).act x).readByte addr := by
  rw [State.memWrite, hl, if_neg (by decide)]
  exact cycle_readByte_of_action (s := s.putByte a v) hl he _ addr

theorem act_write_readByte_same (s : State) (addr : Word) (v : Byte) :
    (s.act (.write addr v)).readByte addr = v := by
  rw [State.act, State.putByte_readByte, if_pos rfl]

/-- A request is an or into IF (R35, log 1). -/
theorem act_request_readByte_if (s : State) (n : Interrupt) :
    (s.act (.request n)).readByte 0xFF0F#16 = s.readByte 0xFF0F#16 ||| lineBit n :=
  (s.putByte_readByte _ _ _).trans (if_pos rfl)

/-- Settles O39: a cycle's transaction comes before its tick, so a read there answers the old byte, and what the environment
does in the tick is done to what a write there left. -/
theorem theEnvironmentActsAfterTheTransaction : Obligations.TheEnvironmentActsAfterTheTransaction := by
  unfold Obligations.TheEnvironmentActsAfterTheTransaction
  intro s addr v w n rest hl
  refine ⟨fun he => ⟨rfl, ?_, ?_⟩, fun he i => ?_⟩
  · rw [memRead_fst, memRead_snd, cycle_readByte_of_action hl he, act_write_readByte_same]
  · rw [memWrite_readByte_of_action hl he, act_write_readByte_same]
  · rw [State.idle, cycle_readByte_of_action hl he, act_request_readByte_if, BitVec.getLsbD_or]

/-! ### A cycle in which the environment spares a byte -/

theorem cycle_readByte {s : State} {addr : Word} (h : s.EnvSpares 1 addr) (k : BusCycle) :
    (s.cycle k).readByte addr = s.readByte addr := by
  unfold State.cycle
  split
  · rfl
  · exact tick_readByte (s := s.setTrace _) h

theorem memWrite_readByte {s : State} (hs : s.NoReset) {addr : Word} (h : s.EnvSpares 1 addr) (a : Word) (v : Byte) :
    (s.memWrite a v).readByte addr = if addr = a then v else s.readByte addr :=
  (emits_memWrite hs a v).mem addr h

/-! ### The instruction decoded does not depend on the byte its opcode came from -/

theorem imm8_imm8_fst {s : State} (h : s.EnvSpares 1 (s.pc + 1)) : s.imm8.2.imm8.1 = s.readByte (s.pc + 1) := by
  have hpc : s.imm8.2.pc = s.pc + 1 := congrArg Regs.pc (imm8_regs s)
  rw [imm8_fst, hpc]
  exact cycle_readByte h _

/-- Decoding depends on IR and on the two bytes from PC on, the second as the environment leaves it in the cycle of the
first. -/
theorem fetchInstr_fst_congr {s t : State} (hir : t.ir = s.ir) (h1 : t.imm8.1 = s.imm8.1)
    (h2 : t.imm8.2.imm8.1 = s.imm8.2.imm8.1) : t.fetchInstr.1 = s.fetchInstr.1 := by
  unfold State.fetchInstr
  rw [hir, h1, h2]
  split <;> rfl

theorem fetchInstr_fst_putByte {s : State} {a : Word} (h : s.EnvSpares 1 (s.pc + 1)) (h0 : s.pc ≠ a)
    (h1 : s.pc + 1 ≠ a) (v : Byte) : (s.putByte a v).fetchInstr.1 = s.fetchInstr.1 := by
  refine fetchInstr_fst_congr rfl ?_ ?_
  · exact (s.putByte_readByte a v s.pc).trans (if_neg h0)
  · rw [imm8_imm8_fst h]
    exact (imm8_imm8_fst (s := s.putByte a v) h).trans ((s.putByte_readByte a v (s.pc + 1)).trans (if_neg h1))

/-! ### LD (HL),A, and the fetch at the end of its step -/

/-- With IME = 0 the step of a one-byte instruction ends in the fetch of the next opcode and dispatches nothing, whatever
cycles the instruction itself spent. -/
theorem step_eq_fetchNext {s u : State} {i : Instr} {cs : List BusCycle} (hs : s.NoReset) (hr : s.run = .running)
    (hn : operandCount s.ir = 0) (hd : decodeUnprefixed s.ir 0#8 0#8 = i) (hp : i.selectsPrefixed = false)
    (ho : i.ownFetch = false) (he : exec i s = .next u) (hu : Emits s u cs) (hime : u.ime = false) :
    step s = .next u.fetchNext := by
  have hfetch := emits_fetchNext_of_ime_false (hu.noReset hs) hime
  rw [step_running hs.1 hr, stepRunning_of_noOperand hn hd hp he, postFetch_of_ownFetch_false ho,
    settle_noReset (hfetch.noReset (hu.noReset hs))]

/-- LD (HL),A stores, and the byte that its fetch reads is the one memory holds after the store (R211, R212). -/
theorem step_ldAtHlA {s : State} (hs : s.NoReset) (hr : s.run = .running) (hime : s.ime = false) (hi : s.ir = 0x77#8) :
    ∃ t, step s = .next t ∧ t.ir = (s.memWrite s.hl s.a).readByte s.pc ∧ t.pc = s.pc + 1 ∧
      Emits s t [.write s.hl s.a, .read s.pc ((s.memWrite s.hl s.a).readByte s.pc)] := by
  have hu := emits_memWrite hs s.hl s.a
  have hime' : (s.memWrite s.hl s.a).ime = false := (memWrite_ime _ _ _).trans hime
  have hpc : (s.memWrite s.hl s.a).pc = s.pc := memWrite_pc _ _ _
  have hregs := fetchNext_regs_of_ime_false hime'
  have hfetch := hu.trans (emits_fetchNext_of_ime_false (hu.noReset hs) hime')
  rw [hpc] at hregs hfetch
  exact ⟨_, step_eq_fetchNext (i := Instr.ld8 .atHl .a) hs hr (by rw [hi]; rfl) (by rw [hi]; rfl) rfl rfl rfl hu hime',
    congrArg Regs.ir hregs, congrArg Regs.pc hregs, hfetch⟩

/-- Settles O38: the fetch is the cycle after the store and reads memory as the store left it; the opcode in IR was read
before, and the immediates of its instruction come from PC on. -/
theorem aStoreToTheNextOpcodeIsFetched : Obligations.AStoreToTheNextOpcodeIsFetched := by
  unfold Obligations.AStoreToTheNextOpcodeIsFetched
  refine ⟨fun s hs hr hime hi hhl hpc => ?_, fun s hs hr hime hi hhl hpc hsp => ?_, fun s v h => ?_⟩
  · obtain ⟨t, hstep, hir, htpc, -⟩ := step_ldAtHlA hs hr hime hi
    refine ⟨t, hstep, ?_, htpc⟩
    rw [hir, memWrite_readByte hs hpc, if_pos hhl.symm]
  · obtain ⟨t, hstep, hir, htpc, hemits⟩ := step_ldAtHlA hs hr hime hi
    refine ⟨t, hstep, ?_, htpc, ?_⟩
    · rw [hir, memWrite_readByte hs hpc, if_neg hhl.symm]
    · exact (hemits.mem s.hl hsp).trans (if_pos rfl)
  · exact fetchInstr_fst_putByte h (by bv_omega) (by bv_omega) v

end Sys2Proof.Machine
end

section
/-! PROOFS. What `decode` answers, said once: the form of the bytes it reads (R90, R93, R106), and the opcodes that ask for
an immediate (R102). -/

namespace Sys2Proof

/-! ### How many immediate bytes an opcode asks for -/

theorem operandCount_cases (op : Byte) :
    operandCount op = 0 ∨ operandCount op = 1 ∧ op ∈ lengthTwo ∨ operandCount op = 2 ∧ op ∈ lengthThree := by
  unfold operandCount lengthOf
  split_ifs with _ h3 h2
  · exact .inl rfl
  · exact .inr (.inr ⟨rfl, h3⟩)
  · exact .inr (.inl ⟨rfl, h2⟩)
  · exact .inl rfl

/-! ### What the decoder reads -/

/-- `bytes` begins with a complete instruction, which is `i`: the row PREFIX CB when nothing follows it, a row of
the prefixed table, or an unprefixed row with the immediates that its opcode asks for. -/
inductive DecodesTo : List Byte → Instr → Prop
  | prefixAlone : DecodesTo [0xCB#8] .prefixCb
  | prefixed (op2 : Byte) (rest : List Byte) : DecodesTo (0xCB#8 :: op2 :: rest) (decodePrefixed op2)
  | plain {op : Byte} (rest : List Byte) (hop : op ≠ 0xCB#8) (hn : operandCount op = 0) :
      DecodesTo (op :: rest) (decodeUnprefixed op 0#8 0#8)
  | byteImm {op : Byte} (b1 : Byte) (rest : List Byte) (hop : op ≠ 0xCB#8) (hn : operandCount op = 1) :
      DecodesTo (op :: b1 :: rest) (decodeUnprefixed op b1 0#8)
  | wordImm {op : Byte} (b1 b2 : Byte) (rest : List Byte) (hop : op ≠ 0xCB#8) (hn : operandCount op = 2) :
      DecodesTo (op :: b1 :: b2 :: rest) (decodeUnprefixed op b1 b2)

theorem DecodesTo.decode_eq {bytes : List Byte} {i : Instr} (h : DecodesTo bytes i) : decode bytes = .ok i := by
  cases h with
  | prefixAlone => rfl
  | prefixed op2 rest => rfl
  | plain rest hop hn => simp [decode, hop, hn]
  | byteImm b1 rest hop hn => simp [decode, hop, hn]
  | wordImm b1 b2 rest hop hn => simp [decode, hop, hn]

theorem decode_of_length_lt {op : Byte} {rest : List Byte} (h : rest.length < operandCount op) :
    decode (op :: rest) = .error .missingImmediate := by
  have hop : op ≠ 0xCB#8 := by
    rintro rfl
    exact absurd h (Nat.not_lt_zero _)
  obtain hn | ⟨hn, -⟩ | ⟨hn, -⟩ := operandCount_cases op
  · exact absurd h (by simp [hn])
  · obtain rfl : rest = [] := List.length_eq_zero_iff.mp (by omega)
    simp [decode, hop, hn]
  · match rest with
    | [] => simp [decode, hop, hn]
    | [b1] => simp [decode, hop, hn]
    | _ :: _ :: rest => exact absurd h (by simp [hn])

theorem exists_decodesTo {op : Byte} {rest : List Byte} (h : operandCount op ≤ rest.length) :
    ∃ i, DecodesTo (op :: rest) i := by
  by_cases hop : op = 0xCB#8
  · subst hop
    cases rest with
    | nil => exact ⟨_, .prefixAlone⟩
    | cons op2 rest => exact ⟨_, .prefixed op2 rest⟩
  · obtain hn | ⟨hn, -⟩ | ⟨hn, -⟩ := operandCount_cases op
    · exact ⟨_, .plain rest hop hn⟩
    · obtain ⟨b1, rest, rfl⟩ := List.exists_cons_of_length_pos (Nat.lt_of_lt_of_le (by omega) h)
      exact ⟨_, .byteImm b1 rest hop hn⟩
    · match rest with
      | [] | [_] => exact absurd h (by simp [hn])
      | b1 :: b2 :: rest => exact ⟨_, .wordImm b1 b2 rest hop hn⟩

theorem decode_eq_ok_iff {bytes : List Byte} {i : Instr} : decode bytes = .ok i ↔ DecodesTo bytes i := by
  refine ⟨fun h => ?_, DecodesTo.decode_eq⟩
  match bytes with
  | [] => cases h
  | op :: rest =>
    obtain hlt | hle := Nat.lt_or_ge rest.length (operandCount op)
    · cases (decode_of_length_lt hlt).symm.trans h
    · obtain ⟨j, hj⟩ := exists_decodesTo hle
      cases hj.decode_eq.symm.trans h
      exact hj

end Sys2Proof
end

section
/-! PROOFS. The encoder against the decoder, row by row (R94 to R99), and the statements about encodings. -/

namespace Sys2Proof

open Machine

/-! ### The encoding of what an opcode decodes to -/

theorem encode_decodePrefixed : ∀ op2 : Byte, encode (decodePrefixed op2) = [0xCB#8, op2] := by decide

/-- A row without an immediate; STOP is encoded with a second byte. -/
theorem encode_decodeUnprefixed_plain :
    ∀ op : Byte, op ≠ 0x10#8 → operandCount op = 0 → encode (decodeUnprefixed op 0#8 0#8) = [op] := by decide

/-- A row with one immediate byte: the two sides agree on the list of these rows, whatever the byte. -/
theorem encode_decodeUnprefixed_byteImm {op : Byte} (b1 : Byte) (hn : operandCount op = 1) :
    encode (decodeUnprefixed op b1 0#8) = [op, b1] := by
  have hmem : op ∈ lengthTwo := by simpa [hn] using operandCount_cases op
  have hrows : ∀ op ∈ lengthTwo.filter (operandCount · = 1), encode (decodeUnprefixed op b1 0#8) = [op, b1] :=
    List.map_inj_left.mp rfl
  exact hrows op (List.mem_filter.mpr ⟨hmem, decide_eq_true hn⟩)

/-- A row with an immediate word, which is encoded low byte first (R94). -/
theorem encode_decodeUnprefixed_wordImm {op : Byte} (b1 b2 : Byte) (hn : operandCount op = 2) :
    encode (decodeUnprefixed op b1 b2) = [op, b1, b2] := by
  have hmem : op ∈ lengthThree := by simpa [hn] using operandCount_cases op
  have hrows : ∀ op ∈ lengthThree,
      encode (decodeUnprefixed op b1 b2) = [op, loByte (pair b2 b1), hiByte (pair b2 b1)] := List.map_inj_left.mp rfl
  rw [hrows op hmem, loByte_pair, hiByte_pair]

theorem DecodesTo.eq_encode_append {bytes : List Byte} {i : Instr} (h : DecodesTo bytes i)
    (hstop : bytes.head? ≠ some 0x10#8) : ∃ rest, bytes = encode i ++ rest := by
  cases h with
  | prefixAlone => exact ⟨[], rfl⟩
  | prefixed op2 rest => exact ⟨rest, by rw [encode_decodePrefixed]; rfl⟩
  | plain rest hop hn =>
    have hne := fun h10 => hstop (congrArg some h10)
    exact ⟨rest, by rw [encode_decodeUnprefixed_plain _ hne hn]; rfl⟩
  | byteImm b1 rest hop hn => exact ⟨rest, by rw [encode_decodeUnprefixed_byteImm b1 hn]; rfl⟩
  | wordImm b1 b2 rest hop hn => exact ⟨rest, by rw [encode_decodeUnprefixed_wordImm b1 b2 hn]; rfl⟩

/-! ### The illegal opcodes (R100) -/

theorem decodeUnprefixed_illegal (b1 b2 : Byte) : ∀ op ∈ illegalOpcodes, decodeUnprefixed op b1 b2 = .illegal op :=
  List.map_inj_left.mp rfl

theorem opcode_of_ownFetch : ∀ op : Byte, (decodeUnprefixed op 0#8 0#8).ownFetch = true →
    op = 0x10#8 ∨ op = 0x76#8 ∨ op ∈ illegalOpcodes := by decide

theorem decodeUnprefixed_eq_illegal_iff {op b1 b2 op' : Byte} :
    decodeUnprefixed op b1 b2 = .illegal op' ↔ op' = op ∧ op ∈ illegalOpcodes := by
  constructor
  · intro h
    have hown : (decodeUnprefixed op 0#8 0#8).ownFetch = true := by rw [← ownFetch_decodeUnprefixed op b1 b2, h]; rfl
    obtain rfl | rfl | hmem := opcode_of_ownFetch op hown
    · have hstop : decodeUnprefixed 0x10#8 b1 b2 = .stop := rfl
      cases hstop.symm.trans h
    · have hhalt : decodeUnprefixed 0x76#8 b1 b2 = .halt := rfl
      cases hhalt.symm.trans h
    · cases (decodeUnprefixed_illegal b1 b2 op hmem).symm.trans h
      exact ⟨rfl, hmem⟩
  · rintro ⟨rfl, hmem⟩
    exact decodeUnprefixed_illegal b1 b2 op' hmem

theorem decodePrefixed_ne_illegal (op2 op' : Byte) : decodePrefixed op2 ≠ .illegal op' := by
  intro h
  have hown := ownFetch_decodePrefixed op2
  rw [h] at hown
  cases hown

/-! ### What decodes is well formed -/

theorem Instr.wellFormed_illegal {op : Byte} : (Instr.illegal op).wellFormed = true ↔ op ∈ illegalOpcodes :=
  List.contains_iff_mem

theorem Instr.wellFormed_of_illegal {i : Instr} (h : ∀ op, i = .illegal op → op ∈ illegalOpcodes) :
    i.wellFormed = true := by
  unfold Instr.wellFormed
  split
  · exact Instr.wellFormed_illegal.mpr (h _ rfl)
  · rfl

theorem wellFormed_decodeUnprefixed (op b1 b2 : Byte) : (decodeUnprefixed op b1 b2).wellFormed = true := by
  refine Instr.wellFormed_of_illegal fun op' h => ?_
  obtain ⟨rfl, hmem⟩ := decodeUnprefixed_eq_illegal_iff.mp h
  exact hmem

theorem DecodesTo.wellFormed {bytes : List Byte} {i : Instr} (h : DecodesTo bytes i) : i.wellFormed = true := by
  cases h with
  | prefixAlone => rfl
  | prefixed op2 rest => exact Instr.wellFormed_of_illegal fun op' h => absurd h (decodePrefixed_ne_illegal op2 op')
  | plain | byteImm | wordImm => exact wellFormed_decodeUnprefixed _ _ _

/-! ### Decoding an encoding -/

/-- A row `f` with an immediate word is decoded from its encoding at every word, if it is from its bytes. -/
theorem decode_wordRow {op : Byte} {f : Word → Instr}
    (h : ∀ b1 b2 rest, decode (op :: b1 :: b2 :: rest) = .ok (f (pair b2 b1))) (v : Word) (rest : List Byte) :
    decode ([op, loByte v, hiByte v] ++ rest) = .ok (f v) := by
  have hv := h (loByte v) (hiByte v) rest
  rwa [pair_halves] at hv

theorem plain_of_mem_illegalOpcodes : ∀ op ∈ illegalOpcodes, op ≠ 0xCB#8 ∧ operandCount op = 0 := by decide

theorem decode_illegal {op : Byte} (h : op ∈ illegalOpcodes) (rest : List Byte) :
    decode (op :: rest) = .ok (.illegal op) := by
  obtain ⟨hop, hn⟩ := plain_of_mem_illegalOpcodes op h
  rw [(DecodesTo.plain rest hop hn).decode_eq, decodeUnprefixed_illegal _ _ op h]

/-- The opcode is a literal in every row but the illegal ones, and then decoding evaluates; an immediate word is put
together again from its halves. -/
theorem decode_encode_append {i : Instr} (hw : i.wellFormed = true) (hi : i ≠ .prefixCb) (rest : List Byte) :
    decode (encode i ++ rest) = .ok i := by
  cases i
  case prefixCb => exact absurd rfl hi
  case illegal op => exact decode_illegal (Instr.wellFormed_illegal.mp hw) rest
  case ldBcD16 v | ldAtA16Sp v | ldDeD16 v | ldHlD16 v | ldSpD16 v | jpNzA16 v | jpA16 v | callNzA16 v | jpZA16 v
    | callZA16 v | callA16 v | jpNcA16 v | callNcA16 v | jpCA16 v | callCA16 v | ldAtA16A v | ldAAtA16 v =>
    exact decode_wordRow (fun _ _ _ => rfl) v rest
  all_goals rfl

/-! ### The statements -/

/-- Settles O1, by cases on the instruction (`decode_encode_append`). -/
theorem decodeOfEncodeIsTheInstruction : Obligations.DecodeOfEncodeIsTheInstruction := by
  unfold Obligations.DecodeOfEncodeIsTheInstruction
  exact ⟨fun _ rest hw hi => decode_encode_append hw hi rest, rfl, rfl⟩

/-- Settles O2, by cases on the form of the bytes that decoded. -/
theorem encodeOfDecodeIsTheBytes : Obligations.EncodeOfDecodeIsTheBytes := by
  unfold Obligations.EncodeOfDecodeIsTheBytes
  intro bytes i h
  have hd := decode_eq_ok_iff.mp h
  exact ⟨hd.wellFormed, hd.eq_encode_append⟩

/-- Settles O3: what the first byte asks for is `operandCount`. -/
theorem decoderRejectsOnlyMissingBytes : Obligations.DecoderRejectsOnlyMissingBytes := by
  unfold Obligations.DecoderRejectsOnlyMissingBytes
  refine ⟨rfl, fun op rest => ⟨fun (hle : operandCount op ≤ rest.length) => ?_, decode_of_length_lt⟩⟩
  obtain ⟨i, hi⟩ := exists_decodesTo hle
  exact ⟨i, hi.decode_eq⟩

/-- Settles O5: of the rows that manage their own fetch, which read no immediate, all but STOP and HALT are illegal. -/
theorem illegalOpcodesAreTheEleven : Obligations.IllegalOpcodesAreTheEleven := by
  unfold Obligations.IllegalOpcodesAreTheEleven
  exact ⟨fun _ _ _ _ => decodeUnprefixed_eq_illegal_iff, decodePrefixed_ne_illegal⟩

/-- Settles O4: every word is a closed list of bytes, on which the decoder evaluates. -/
theorem wordsWrittenOutFromTheTableDecode : Obligations.WordsWrittenOutFromTheTableDecode := by
  unfold Obligations.WordsWrittenOutFromTheTableDecode
  decide

end Sys2Proof
end

section
/-! PROOFS. The 8-bit adder: the carry vector, addition, subtraction, INC and DEC over the integers (R133 to R137). -/

namespace Sys2Proof.Machine

theorem toNat_and_0F (v : Byte) : (v &&& 0x0F#8).toNat = v.toNat % 16 :=
  (BitVec.toNat_and v _).trans (Nat.and_two_pow_sub_one_eq_mod v.toNat 4)

theorem bitByte_eq_ofNat (x : Bool) : bitByte x = BitVec.ofNat 8 x.toNat := by cases x <;> rfl

theorem toNat_bitNot (x : Bool) : (!x).toNat = 1 - x.toNat := by cases x <;> rfl

namespace Alu

/-! ### The carry vector -/

/-- The recursion of R133 is the library's ripple carry, whose definition is the carry over the integers. -/
theorem carryOut_eq_carry (a b : Byte) (ci : Bool) (i : Nat) : carryOut a b ci i = BitVec.carry (i + 1) a b ci := by
  induction i with
  | zero => rw [BitVec.carry_succ, BitVec.carry_zero]; rfl
  | succ i ih => rw [BitVec.carry_succ, ← ih]; rfl

theorem carries_getLsbD_zero (a b : Byte) (ci : Bool) :
    (carries a b ci).getLsbD 0 = majority (a.getLsbD 0) (b.getLsbD 0) ci := carries_getLsbD a b ci (by decide)

theorem carries_getLsbD_succ (a b : Byte) (ci : Bool) {i : Nat} (h : i < 7) :
    (carries a b ci).getLsbD (i + 1) =
      majority (a.getLsbD (i + 1)) (b.getLsbD (i + 1)) ((carries a b ci).getLsbD i) := by
  rw [carries_getLsbD a b ci (Nat.succ_lt_succ h), carries_getLsbD a b ci (Nat.lt_succ_of_lt h)]
  rfl

theorem carries_getLsbD_eq_decide (a b : Byte) (ci : Bool) {i : Nat} (h : i < 8) :
    (carries a b ci).getLsbD i =
      decide (2 ^ (i + 1) ≤ a.toNat % 2 ^ (i + 1) + b.toNat % 2 ^ (i + 1) + ci.toNat) :=
  (carries_getLsbD a b ci h).trans (carryOut_eq_carry a b ci i)

/-- The half carry: the low nibbles and the carry in overflow four bits. -/
theorem carries_getLsbD_three (a b : Byte) (ci : Bool) :
    (carries a b ci).getLsbD 3 = decide (15 < a.toNat % 16 + b.toNat % 16 + ci.toNat) :=
  carries_getLsbD_eq_decide a b ci (by decide)

/-- The carry: the sum overflows eight bits. -/
theorem carries_getLsbD_seven (a b : Byte) (ci : Bool) :
    (carries a b ci).getLsbD 7 = decide (256 ≤ a.toNat + b.toNat + ci.toNat) := by
  have h := carries_getLsbD_eq_decide a b ci (i := 7) (by decide)
  rwa [Nat.mod_eq_of_lt a.isLt, Nat.mod_eq_of_lt b.isLt] at h

/-- Settles O6: the recursion bit by bit, and what it is over the integers (`carryOut_eq_carry`). -/
theorem carryVectorIsTheCarries : Obligations.CarryVectorIsTheCarries := by
  unfold Obligations.CarryVectorIsTheCarries
  intro a b ci
  refine ⟨carries_getLsbD_zero a b ci, fun i h => carries_getLsbD_succ a b ci h,
    fun i h => carries_getLsbD_eq_decide a b ci h, ?_, carries_getLsbD_seven a b ci⟩
  rw [toNat_and_0F, toNat_and_0F]
  exact carries_getLsbD_three a b ci

/-! ### Addition -/

theorem isZero_ofNat (n : Nat) : isZero (BitVec.ofNat 8 n) = decide (n % 256 = 0) := by
  simp only [isZero, BitVec.toNat_eq, BitVec.toNat_ofNat, Nat.zero_mod, Nat.reducePow]

theorem add_bitByte_eq_ofNat (a b : Byte) (ci : Bool) :
    a + b + bitByte ci = BitVec.ofNat 8 (a.toNat + b.toNat + ci.toNat) := by
  rw [bitByte_eq_ofNat, BitVec.ofNat_add, BitVec.ofNat_add, BitVec.ofNat_toNat, BitVec.ofNat_toNat,
    BitVec.setWidth_eq, BitVec.setWidth_eq]

/-- `adc` over the integers: the sum modulo 256, and its flags. -/
theorem adc_eq (a b : Byte) (ci : Bool) :
    adc a b ci = (BitVec.ofNat 8 (a.toNat + b.toNat + ci.toNat),
      { z := some (decide ((a.toNat + b.toNat + ci.toNat) % 256 = 0)), n := some false,
        h := some (decide (15 < a.toNat % 16 + b.toNat % 16 + ci.toNat)),
        c := some (decide (256 ≤ a.toNat + b.toNat + ci.toNat)) }) := by
  rw [← carries_getLsbD_three, ← carries_getLsbD_seven, ← isZero_ofNat, ← add_bitByte_eq_ofNat]
  rfl

/-- Settles O7, from `adc_eq`. -/
theorem addAndAdcComputeSumAndFlags : Obligations.AddAndAdcComputeSumAndFlags := by
  unfold Obligations.AddAndAdcComputeSumAndFlags
  intro a b ci
  refine ⟨?_, rfl, carries_getLsbD_three a b ci, carries_getLsbD_seven a b ci⟩
  rw [carries_getLsbD_three, carries_getLsbD_seven]
  exact adc_eq a b ci

/-! ### Subtraction -/

/-- Adding the complement with the complemented borrow is subtracting, modulo 256. -/
theorem add_not_eq_sub (a b : Byte) (bi : Bool) :
    a.toNat + (~~~b).toNat + (!bi).toNat = a.toNat + 256 - (b.toNat + bi.toNat) := by
  have hb := b.isLt
  have hbi := bi.toNat_le
  rw [BitVec.toNat_not, toNat_bitNot]
  omega

/-- The half borrow: the low nibble is smaller than what is taken from it. -/
theorem borrows_getLsbD_three (a b : Byte) (bi : Bool) :
    (~~~(carries a (~~~b) (!bi))).getLsbD 3 = decide (a.toNat % 16 < b.toNat % 16 + bi.toNat) := by
  have hb := b.isLt
  have hbi := bi.toNat_le
  rw [BitVec.getLsbD_not, carries_getLsbD_three, BitVec.toNat_not, toNat_bitNot, ← decide_not, ← Bool.decide_and,
    decide_eq_decide]
  omega

/-- The borrow: the byte is smaller than what is taken from it. -/
theorem borrows_getLsbD_seven (a b : Byte) (bi : Bool) :
    (~~~(carries a (~~~b) (!bi))).getLsbD 7 = decide (a.toNat < b.toNat + bi.toNat) := by
  rw [BitVec.getLsbD_not, carries_getLsbD_seven, add_not_eq_sub, ← decide_not, ← Bool.decide_and, decide_eq_decide]
  omega

/-- `sbc` over the integers: the difference modulo 256, and its flags. -/
theorem sbc_eq (a b : Byte) (bi : Bool) :
    sbc a b bi = (BitVec.ofNat 8 (a.toNat + 256 - (b.toNat + bi.toNat)),
      { z := some (isZero (BitVec.ofNat 8 (a.toNat + 256 - (b.toNat + bi.toNat)))), n := some true,
        h := some (decide (a.toNat % 16 < b.toNat % 16 + bi.toNat)),
        c := some (decide (a.toNat < b.toNat + bi.toNat)) }) := by
  rw [← borrows_getLsbD_three, ← borrows_getLsbD_seven, ← add_not_eq_sub, ← add_bitByte_eq_ofNat]
  rfl

/-- Settles O8, from `sbc_eq`. -/
theorem subAndSbcComputeDifferenceAndFlags : Obligations.SubAndSbcComputeDifferenceAndFlags := by
  unfold Obligations.SubAndSbcComputeDifferenceAndFlags
  intro a b bi
  refine ⟨?_, ?_, rfl, borrows_getLsbD_three a b bi, borrows_getLsbD_seven a b bi⟩
  · rw [borrows_getLsbD_three, borrows_getLsbD_seven]
    exact sbc_eq a b bi
  · rw [← toNat_bitNot, add_not_eq_sub]

/-! ### INC and DEC -/

theorem inc_eq (a : Byte) :
    inc a = (BitVec.ofNat 8 (a.toNat + 1),
      { z := some (decide (a.toNat = 255)), n := some false, h := some (decide (a.toNat % 16 = 15)), c := none }) := by
  have ha := a.isLt
  have hz : (a.toNat + 1) % 256 = 0 ↔ a.toNat = 255 := by omega
  have hh : 15 < a.toNat % 16 + 1 ↔ a.toNat % 16 = 15 := by omega
  simp [inc, add, adc_eq, hz, hh]

theorem dec_eq (a : Byte) :
    dec a = (BitVec.ofNat 8 (a.toNat + 255),
      { z := some (decide (a.toNat = 1)), n := some true, h := some (decide (a.toNat % 16 = 0)), c := none }) := by
  have ha := a.isLt
  have hz : (a.toNat + 255) % 256 = 0 ↔ a.toNat = 1 := by omega
  have hh : a.toNat % 16 < 1 ↔ a.toNat % 16 = 0 := by omega
  simp [dec, sub, sbc_eq, isZero_ofNat, hz, hh]

/-- Settles O9: `adc_eq` and `sbc_eq` at the operand 1. -/
theorem incAndDecLeaveCarryOut : Obligations.IncAndDecLeaveCarryOut := by
  unfold Obligations.IncAndDecLeaveCarryOut
  exact fun a => ⟨rfl, inc_eq a, rfl, dec_eq a⟩

end Alu

end Sys2Proof.Machine
end

section
/-! PROOFS. The 16-bit sums: ADD HL in two passes of the byte adder, and SP plus a signed displacement (R156, R157). -/

namespace Sys2Proof.Machine

theorem toNat_loByte (v : Word) : (loByte v).toNat = v.toNat % 256 := BitVec.extractLsb'_toNat 0 8 v

theorem toNat_hiByte (v : Word) : (hiByte v).toNat = v.toNat / 256 := by
  have hv := v.isLt
  rw [hiByte, BitVec.extractLsb'_toNat, Nat.shiftRight_eq_div_pow]
  omega

theorem toNat_bitByte (x : Bool) : (bitByte x).toNat = x.toNat := by cases x <;> rfl

theorem toNat_signExtend_byte (e : Byte) :
    (e.signExtend 16).toNat = e.toNat + if e.getLsbD 7 then 65280 else 0 := by
  rw [BitVec.toNat_signExtend, BitVec.msb_eq_getLsbD_last, BitVec.toNat_setWidth_of_le (by decide)]

namespace Alu

/-! ### A pass of the adder, part by part -/

theorem toNat_adc_fst (a b : Byte) (ci : Bool) : (adc a b ci).1.toNat = (a.toNat + b.toNat + ci.toNat) % 256 := by
  rw [adc_eq]
  exact BitVec.toNat_ofNat _ 8

theorem adc_h (a b : Byte) (ci : Bool) :
    (adc a b ci).2.h = some (decide (15 < a.toNat % 16 + b.toNat % 16 + ci.toNat)) := by rw [adc_eq]

theorem adc_c (a b : Byte) (ci : Bool) :
    (adc a b ci).2.c = some (decide (256 ≤ a.toNat + b.toNat + ci.toNat)) := by rw [adc_eq]

/-- The carry of a pass is what is left of its sum above 255. -/
theorem toNat_carryOf_adc (a b : Byte) (ci : Bool) :
    (carryOf (adc a b ci).2).toNat = (a.toNat + b.toNat + ci.toNat) / 256 := by
  have ha := a.isLt
  have hb := b.isLt
  have hci := ci.toNat_le
  rw [carryOf, adc_c, Option.getD_some]
  by_cases h : 256 ≤ a.toNat + b.toNat + ci.toNat
  · rw [decide_eq_true h, Bool.toNat_true]
    omega
  · rw [decide_eq_false h, Bool.toNat_false]
    omega

/-! ### ADD HL -/

/-- The high pass adds what the low pass carries. -/
theorem add16_eq (hl v : Word) :
    add16 hl v = (BitVec.ofNat 16 (hl.toNat + v.toNat),
      { z := none, n := some false, h := some (decide (0x0FFF < hl.toNat % 4096 + v.toNat % 4096)),
        c := some (decide (0xFFFF < hl.toNat + v.toNat)) }) := by
  have hcarry : (carryOf (adc (loByte hl) (loByte v) false).2).toNat = (hl.toNat % 256 + v.toNat % 256) / 256 := by
    rw [toNat_carryOf_adc, toNat_loByte, toNat_loByte, Bool.toNat_false, Nat.add_zero]
  have hsum : pair (adc (hiByte hl) (hiByte v) (carryOf (adc (loByte hl) (loByte v) false).2)).1
      (adc (loByte hl) (loByte v) false).1 = BitVec.ofNat 16 (hl.toNat + v.toNat) := by
    refine BitVec.eq_of_toNat_eq ?_
    simp only [pair_toNat, toNat_adc_fst, hcarry, toNat_loByte, toNat_hiByte, Bool.toNat_false, BitVec.toNat_ofNat]
    omega
  simp only [add16, add, hsum, adc_h, adc_c, hcarry, toNat_hiByte, Prod.mk.injEq, FlagChange.mk.injEq,
    Option.some.injEq, decide_eq_decide, true_and]
  exact ⟨by omega, by omega⟩

/-- Settles O15, from `add16_eq`; the two passes are the definition. -/
theorem add16CarriesFromBits11And15 : Obligations.Add16CarriesFromBits11And15 := by
  unfold Obligations.Add16CarriesFromBits11And15
  exact fun hl v => ⟨add16_eq hl v, rfl⟩

/-! ### SP plus a displacement -/

/-- The high byte of `sp + sext_16(e)`: a negative `e` has the high byte 0xFF, which takes 1 from that of SP unless the low
bytes carry. -/
theorem spPlusE_fst (sp : Word) (e : Byte) : (spPlusE sp e).1 = sp + e.signExtend 16 := by
  have hsp := sp.isLt
  have he := e.isLt
  have hcarry : (carryOf (add (loByte sp) e).2).toNat = (sp.toNat % 256 + e.toNat) / 256 := by
    rw [add, toNat_carryOf_adc, toNat_loByte, Bool.toNat_false, Nat.add_zero]
  have hlow : (add (loByte sp) e).1.toNat = (sp.toNat % 256 + e.toNat) % 256 := by
    rw [add, toNat_adc_fst, toNat_loByte, Bool.toNat_false, Nat.add_zero]
  refine BitVec.eq_of_toNat_eq ?_
  rw [spPlusE, pair_toNat, hlow, BitVec.toNat_add, toNat_signExtend_byte]
  split
  case isTrue =>
    rw [BitVec.toNat_sub, toNat_bitByte, toNat_bitNot, hcarry, toNat_hiByte]
    omega
  case isFalse =>
    rw [BitVec.toNat_add, toNat_bitByte, hcarry, toNat_hiByte]
    omega

theorem spPlusE_snd (sp : Word) (e : Byte) :
    (spPlusE sp e).2 = { z := some false, n := some false, h := some (decide (15 < sp.toNat % 16 + e.toNat % 16)),
                         c := some (decide (255 < sp.toNat % 256 + e.toNat)) } := by
  rw [spPlusE, add, adc_h, adc_c, toNat_loByte, Nat.mod_mod_of_dvd _ (by decide)]
  rfl

/-- Settles O16, from `spPlusE_fst` and `spPlusE_snd`; the two bytes are the definition, with the carry as a number. -/
theorem spPlusEIsASignedSumWithLowByteFlags : Obligations.SpPlusEIsASignedSumWithLowByteFlags := by
  unfold Obligations.SpPlusEIsASignedSumWithLowByteFlags
  intro sp e
  refine ⟨Prod.ext (spPlusE_fst sp e) (spPlusE_snd sp e), ?_⟩
  rw [← toNat_bitNot, ← bitByte_eq_ofNat, ← bitByte_eq_ofNat]
  rfl

end Alu

end Sys2Proof.Machine
end

section
/-! PROOFS. DAA: its program over the integers (R155), and what it makes of a sum and of a difference (R267). -/

namespace Sys2Proof.Machine.Alu

/-! ### The program -/

theorem toNat_ite_add (x : Bool) (r k : Byte) :
    (if x then r + k else r).toNat = if x then (r.toNat + k.toNat) % 256 else r.toNat :=
  (apply_ite BitVec.toNat _ _ _).trans (by rw [BitVec.toNat_add])

theorem toNat_ite_sub (x : Bool) (r k : Byte) :
    (if x then r - k else r).toNat = if x then (r.toNat + 256 - k.toNat) % 256 else r.toNat := by
  have hk := k.isLt
  rw [apply_ite BitVec.toNat, BitVec.toNat_sub, ← Nat.sub_add_comm (Nat.le_of_lt hk), Nat.add_comm]

theorem daaLow_eq_decide (r : Byte) (h : Bool) : daaLow r h = (h || decide (9 < r.toNat % 16)) := by
  rw [← toNat_and_0F]
  rfl

/-- The answer of DAA, once its result is known as a number. -/
theorem daaAnswer_eq {r : Byte} {n : Nat} (hr : r.toNat = n) (c : Bool) :
    (r, ({ z := some (isZero r), h := some false, c := some c } : FlagChange)) =
      (BitVec.ofNat 8 n, { z := some (decide (n = 0)), n := none, h := some false, c := some c }) := by
  subst hr
  simp only [isZero, BitVec.toNat_eq, BitVec.ofNat_toNat, BitVec.setWidth_eq, BitVec.toNat_ofNat, Nat.zero_mod]

/-- Settles O13: the two adjustments, each as a number, in each arm of the program. -/
theorem daaFollowsItsProgram : Obligations.DaaFollowsItsProgram := by
  unfold Obligations.DaaFollowsItsProgram
  intro a n h c c1 r1 low r2
  cases n with
  | false =>
    have hr1 : (if daaHigh a c then a + 0x60#8 else a).toNat = r1 := toNat_ite_add _ a 0x60#8
    refine daaAnswer_eq ?_ _
    rw [toNat_ite_add, daaLow_eq_decide, hr1]
    rfl
  | true =>
    have hr1 : (if c then a - 0x60#8 else a).toNat = r1 := toNat_ite_sub c a 0x60#8
    refine daaAnswer_eq ?_ _
    rw [toNat_ite_sub, hr1]
    rfl

/-! ### DAA after an addition and after a subtraction -/

/-- The two adjustments of the addition arm, as what they add. -/
theorem daa_false_fst (a : Byte) (h c : Bool) :
    (daa a false h c).1 = BitVec.ofNat 8 (a.toNat + (if c = true ∨ 0x99 < a.toNat then 0x60 else 0) +
      (if h = true ∨ 9 < a.toNat % 16 then 0x06 else 0)) := by
  have hlow : (a.toNat + 0x60) % 256 % 16 = a.toNat % 16 := by omega
  rw [daaFollowsItsProgram]
  refine BitVec.eq_of_toNat_eq ?_
  simp only [BitVec.toNat_ofNat, Bool.or_eq_true, decide_eq_true_eq, if_false, Bool.false_eq_true]
  by_cases hhigh : c = true ∨ 0x99 < a.toNat
  · simp only [if_pos hhigh, hlow]
    split <;> omega
  · simp only [if_neg hhigh]
    split <;> omega

theorem daa_false_c (a : Byte) (h c : Bool) : (daa a false h c).2.c = some (c || decide (0x99 < a.toNat)) := by
  rw [daaFollowsItsProgram]
  rfl

/-- The two adjustments of the subtraction arm, as what they take away. -/
theorem daa_true_fst (a : Byte) (h c : Bool) :
    (daa a true h c).1 =
      BitVec.ofNat 8 (a.toNat + 256 - (if c = true then 0x60 else 0) - (if h = true then 0x06 else 0)) := by
  rw [daaFollowsItsProgram]
  refine BitVec.eq_of_toNat_eq ?_
  simp only [BitVec.toNat_ofNat, if_true]
  split_ifs <;> omega

theorem daa_true_c (a : Byte) (h c : Bool) : (daa a true h c).2.c = some c := by
  rw [daaFollowsItsProgram]
  rfl

/-- A sum gets 6 in each digit whose total is above 9, so that the digit carries; DAA's C is the carry of the upper one. -/
theorem daa_adc (a b : Byte) (ci : Bool) :
    let n := a.toNat + b.toNat + ci.toNat
    let s := adc a b ci
    let s' := daa s.1 false (s.2.h.getD false) (s.2.c.getD false)
    s'.1 = BitVec.ofNat 8 (n + (if 0x99 < n then 0x60 else 0) +
      (if 9 < a.toNat % 16 + b.toNat % 16 + ci.toNat then 0x06 else 0)) ∧ s'.2.c = some (decide (0x99 < n)) := by
  intro n s s'
  have ha := a.isLt
  have hb := b.isLt
  have hci := ci.toNat_le
  have hn : s.1.toNat = n % 256 := toNat_adc_fst a b ci
  have hh : s.2.h.getD false = decide (15 < a.toNat % 16 + b.toNat % 16 + ci.toNat) :=
    congrArg (·.getD false) (adc_h a b ci)
  have hc : s.2.c.getD false = decide (256 ≤ n) := congrArg (·.getD false) (adc_c a b ci)
  have hhigh : 256 ≤ n ∨ 0x99 < n % 256 ↔ 0x99 < n := by omega
  have hlow : 15 < a.toNat % 16 + b.toNat % 16 + ci.toNat ∨ 9 < n % 256 % 16 ↔
      9 < a.toNat % 16 + b.toNat % 16 + ci.toNat := by omega
  constructor
  · simp only [s', daa_false_fst, hn, hh, hc, decide_eq_true_eq, hhigh, hlow]
    refine BitVec.eq_of_toNat_eq ?_
    simp only [BitVec.toNat_ofNat]
    omega
  · rw [daa_false_c, hn, hc, ← Bool.decide_or, decide_eq_decide.mpr hhigh]

/-- A difference loses 6 more in each digit that borrowed; DAA keeps C, the borrow of the upper digit. -/
theorem daa_sbc (a b : Byte) (bi : Bool) :
    let d := sbc a b bi
    let d' := daa d.1 true (d.2.h.getD false) (d.2.c.getD false)
    d'.1 = BitVec.ofNat 8 (a.toNat + 512 - (b.toNat + bi.toNat) -
      (if a.toNat < b.toNat + bi.toNat then 0x60 else 0) -
      (if a.toNat % 16 < b.toNat % 16 + bi.toNat then 0x06 else 0)) ∧
    d'.2.c = some (decide (a.toNat < b.toNat + bi.toNat)) := by
  intro d d'
  have hb := b.isLt
  have hbi := bi.toNat_le
  have hd : d.1.toNat = (a.toNat + 256 - (b.toNat + bi.toNat)) % 256 := by simp only [d, sbc_eq, BitVec.toNat_ofNat]
  have hh : d.2.h.getD false = decide (a.toNat % 16 < b.toNat % 16 + bi.toNat) := by
    simp only [d, sbc_eq, Option.getD_some]
  have hc : d.2.c.getD false = decide (a.toNat < b.toNat + bi.toNat) := by simp only [d, sbc_eq, Option.getD_some]
  constructor
  · simp only [d', daa_true_fst, hd, hh, hc, decide_eq_true_eq]
    refine BitVec.eq_of_toNat_eq ?_
    simp only [BitVec.toNat_ofNat]
    split_ifs <;> omega
  · rw [daa_true_c, hc]

/-! ### Decimal digits -/

/-- The number of the byte that holds the two decimal digits of `k`. -/
def digits (k : Nat) : Nat := k / 10 * 16 + k % 10

theorem toNat_ofNat_digits {k : Nat} (h : k < 100) : (BitVec.ofNat 8 (digits k)).toNat = digits k := by
  rw [BitVec.toNat_ofNat]
  exact Nat.mod_eq_of_lt (by unfold digits; omega)

theorem digits_mod_sixteen (k : Nat) : digits k % 16 = k % 10 := by
  unfold digits
  omega

/-- 6 for each carry out of a digit turns `16 * t + l`, where `t` and `l` are the totals of the tens and of the units, into
the digits of `10 * t + l`. -/
theorem adjusted_eq_digits {t l : Nat} (ht : t ≤ 18) (hl : l ≤ 19) :
    (16 * t + l + (if 0x99 < 16 * t + l then 0x60 else 0) + (if 9 < l then 0x06 else 0)) % 256 =
      digits ((10 * t + l) % 100) := by
  have hlow : (if 9 < l then 0x06 else 0) = 6 * (l / 10) := by split <;> omega
  have hhigh : (if 0x99 < 16 * t + l then 0x60 else 0) = 96 * ((t + l / 10) / 10) := by split <;> omega
  have hbyte : 16 * t + l + 96 * ((t + l / 10) / 10) + 6 * (l / 10) =
      256 * ((t + l / 10) / 10) + (16 * ((t + l / 10) % 10) + l % 10) := by omega
  have hnum : (10 * t + l) % 100 = 10 * ((t + l / 10) % 10) + l % 10 := by omega
  rw [hlow, hhigh, hbyte, hnum, digits]
  omega

theorem sum_digits {x y ci : Nat} (hx : x < 100) (hy : y < 100) (hci : ci ≤ 1) :
    (digits x + digits y + ci + (if 0x99 < digits x + digits y + ci then 0x60 else 0) +
      (if 9 < x % 10 + y % 10 + ci then 0x06 else 0)) % 256 = digits ((x + y + ci) % 100) := by
  have hbyte : digits x + digits y + ci = 16 * (x / 10 + y / 10) + (x % 10 + y % 10 + ci) := by
    unfold digits
    omega
  have hnum : x + y + ci = 10 * (x / 10 + y / 10) + (x % 10 + y % 10 + ci) := by omega
  rw [hbyte, hnum]
  exact adjusted_eq_digits (by omega) (by omega)

theorem sum_carry {x y ci : Nat} (hci : ci ≤ 1) : 0x99 < digits x + digits y + ci ↔ 100 ≤ x + y + ci := by
  unfold digits
  omega

/-- Taking `y` away is adding its nines' complement and 1: a digit borrows in the difference where it does not carry in that
sum. -/
theorem difference_digits {x y ci : Nat} (hx : x < 100) (hy : y < 100) (hci : ci ≤ 1) :
    (digits x + 512 - (digits y + ci) - (if digits x < digits y + ci then 0x60 else 0) -
      (if x % 10 < y % 10 + ci then 0x06 else 0)) % 256 = digits ((x + 200 - y - ci) % 100) := by
  have hsum := sum_digits hx (y := 99 - y) (by omega) (ci := 1 - ci) (by omega)
  have hcomp : digits (99 - y) + digits y = 0x99 := by
    unfold digits
    omega
  have hunits : (99 - y) % 10 + y % 10 = 9 := by omega
  have hhigh : 0x99 < digits x + digits (99 - y) + (1 - ci) ↔ ¬digits x < digits y + ci := by omega
  have hlow : 9 < x % 10 + (99 - y) % 10 + (1 - ci) ↔ ¬x % 10 < y % 10 + ci := by omega
  have hnum : x + 200 - y - ci = x + (99 - y) + (1 - ci) + 100 := by omega
  rw [hnum, Nat.add_mod_right, ← hsum]
  simp only [hhigh, hlow, ite_not]
  split_ifs <;> omega

theorem difference_borrow {x y ci : Nat} (hci : ci ≤ 1) : digits x < digits y + ci ↔ x < y + ci := by
  unfold digits
  omega

theorem ofNat_eq_of_mod_eq {n m : Nat} (h : n % 256 = m) : BitVec.ofNat 8 n = BitVec.ofNat 8 m := by
  subst h
  exact BitVec.eq_of_toNat_eq (Nat.mod_mod n 256).symm

/-- Settles O14: what DAA makes of a sum and of a difference (`daa_adc`, `daa_sbc`), with two digits in each operand. -/
theorem daaMakesArithmeticDecimal : Obligations.DaaMakesArithmeticDecimal := by
  unfold Obligations.DaaMakesArithmeticDecimal
  intro x y ci hx hy bcd s d s' d'
  have hci := ci.toNat_le
  have hbx : (bcd x).toNat = digits x := toNat_ofNat_digits hx
  have hby : (bcd y).toNat = digits y := toNat_ofNat_digits hy
  obtain ⟨hs, hsc⟩ := daa_adc (bcd x) (bcd y) ci
  obtain ⟨hd, hdc⟩ := daa_sbc (bcd x) (bcd y) ci
  rw [hbx, hby] at hs hsc hd hdc
  rw [digits_mod_sixteen, digits_mod_sixteen] at hs hd
  refine ⟨⟨hs.trans ?_, hsc.trans ?_⟩, ⟨hd.trans ?_, hdc.trans ?_⟩⟩
  · exact ofNat_eq_of_mod_eq (sum_digits hx hy hci)
  · rw [decide_eq_decide.mpr (sum_carry hci)]
  · exact ofNat_eq_of_mod_eq (difference_digits hx hy hci)
  · rw [decide_eq_decide.mpr (difference_borrow hci)]

end Sys2Proof.Machine.Alu
end

section
/-! PROOFS. The bitwise operations: logic, rotates and shifts, and the operations on single bits and flags (R138 to R154). -/

namespace Sys2Proof.Machine.Alu

/-! ### Where a rotate or a shift moves the bits -/

/-- A shift to the left: `{a[6:0], x}`. -/
theorem getLsbD_shiftedLeft (a : Byte) (x : BitVec 1) {i : Nat} (h : i < 8) :
    (a.extractLsb' 0 7 ++ x : Byte).getLsbD i = if i = 0 then x.getLsbD 0 else a.getLsbD (i - 1) := by
  rw [BitVec.getLsbD_append, BitVec.getLsbD_extractLsb', Nat.zero_add, decide_eq_true (show i - 1 < 7 by omega),
    Bool.true_and]
  cases i <;> rfl

/-- A shift to the right: `{x, a[7:1]}`. -/
theorem getLsbD_shiftedRight (a : Byte) (x : BitVec 1) {i : Nat} (h : i < 8) :
    (x ++ a.extractLsb' 1 7 : Byte).getLsbD i = if i = 7 then x.getLsbD 0 else a.getLsbD (i + 1) := by
  rw [BitVec.getLsbD_append, BitVec.getLsbD_extractLsb', Nat.add_comm 1 i]
  by_cases h7 : i = 7
  · subst h7
    rfl
  · have hlt : i < 7 := by omega
    rw [if_pos hlt, if_neg h7, decide_eq_true hlt, Bool.true_and]

theorem getLsbD_swapped (a : Byte) {i : Nat} (h : i < 8) :
    (a.extractLsb' 0 4 ++ a.extractLsb' 4 4 : Byte).getLsbD i = a.getLsbD ((i + 4) % 8) := by
  rw [BitVec.getLsbD_append, BitVec.getLsbD_extractLsb', BitVec.getLsbD_extractLsb']
  by_cases h4 : i < 4
  · rw [if_pos h4, decide_eq_true h4, Bool.true_and, Nat.mod_eq_of_lt (by omega), Nat.add_comm]
  · rw [if_neg h4, decide_eq_true (show i - 4 < 4 by omega), Bool.true_and]
    congr 1
    omega

theorem getLsbD_zero_extractLsb' (a : Byte) (k : Nat) : (a.extractLsb' k 1).getLsbD 0 = a.getLsbD k :=
  BitVec.getLsbD_extractLsb' k 1 a 0

theorem getLsbD_zero_ofBool (x : Bool) : (BitVec.ofBool x).getLsbD 0 = x := BitVec.getLsbD_ofBool x 0

theorem rlc_getLsbD (a : Byte) {i : Nat} (h : i < 8) : (rlc a).1.getLsbD i = a.getLsbD ((i + 7) % 8) := by
  refine (getLsbD_shiftedLeft a _ h).trans ?_
  rw [getLsbD_zero_extractLsb']
  split
  case isTrue h0 => rw [h0]
  case isFalse h0 => rw [show (i + 7) % 8 = i - 1 by omega]

theorem rrc_getLsbD (a : Byte) {i : Nat} (h : i < 8) : (rrc a).1.getLsbD i = a.getLsbD ((i + 1) % 8) := by
  refine (getLsbD_shiftedRight a _ h).trans ?_
  rw [getLsbD_zero_extractLsb']
  split
  case isTrue h7 => rw [h7]
  case isFalse h7 => rw [Nat.mod_eq_of_lt (by omega)]

theorem rl_getLsbD (a : Byte) (ci : Bool) {i : Nat} (h : i < 8) :
    (rl a ci).1.getLsbD i = if i = 0 then ci else a.getLsbD (i - 1) :=
  (getLsbD_shiftedLeft a _ h).trans (by rw [getLsbD_zero_ofBool])

theorem rr_getLsbD (a : Byte) (ci : Bool) {i : Nat} (h : i < 8) :
    (rr a ci).1.getLsbD i = if i = 7 then ci else a.getLsbD (i + 1) :=
  (getLsbD_shiftedRight a _ h).trans (by rw [getLsbD_zero_ofBool])

theorem sla_getLsbD (a : Byte) {i : Nat} (h : i < 8) :
    (sla a).1.getLsbD i = if i = 0 then false else a.getLsbD (i - 1) := getLsbD_shiftedLeft a 0#1 h

theorem sra_getLsbD (a : Byte) {i : Nat} (h : i < 8) :
    (sra a).1.getLsbD i = if i = 7 then a.getLsbD 7 else a.getLsbD (i + 1) :=
  (getLsbD_shiftedRight a _ h).trans (by rw [getLsbD_zero_extractLsb'])

theorem srl_getLsbD (a : Byte) {i : Nat} (h : i < 8) :
    (srl a).1.getLsbD i = if i = 7 then false else a.getLsbD (i + 1) := getLsbD_shiftedRight a 0#1 h

/-- Settles O11: two shifts, which differ in the bit that comes in, and the swap of the nibbles. -/
theorem rotatesAndShiftsMoveEveryBit : Obligations.RotatesAndShiftsMoveEveryBit := by
  unfold Obligations.RotatesAndShiftsMoveEveryBit
  intro a ci
  exact ⟨⟨fun _ => rlc_getLsbD a, rfl⟩, ⟨fun _ => rrc_getLsbD a, rfl⟩, ⟨fun _ => rl_getLsbD a ci, rfl⟩,
    ⟨fun _ => rr_getLsbD a ci, rfl⟩, ⟨fun _ => sla_getLsbD a, rfl⟩, ⟨fun _ => sra_getLsbD a, rfl⟩,
    ⟨fun _ => srl_getLsbD a, rfl⟩, ⟨fun _ => getLsbD_swapped a, rfl⟩, fun _ _ => rfl⟩

/-! ### Logic -/

/-- Settles O10: the operations are the library's, bit by bit, and the flags are the definition. -/
theorem logicOperationsAndTheirFlags : Obligations.LogicOperationsAndTheirFlags := by
  unfold Obligations.LogicOperationsAndTheirFlags
  intro a b
  exact ⟨fun _ _ => BitVec.getLsbD_and, rfl, fun _ _ => BitVec.getLsbD_or, rfl, fun _ _ => BitVec.getLsbD_xor, rfl⟩

/-! ### Single bits -/

theorem getLsbD_bitMask {n i : Nat} (h : i < 8) : (1#8 <<< n).getLsbD i = decide (i = n) := by
  rw [BitVec.getLsbD_shiftLeft, BitVec.getLsbD_one, ← decide_not, ← Bool.decide_and, ← Bool.decide_and,
    ← Bool.decide_and, decide_eq_decide]
  omega

theorem res_getLsbD (n : Nat) (a : Byte) {i : Nat} (h : i < 8) :
    (res n a).getLsbD i = (a.getLsbD i && decide (i ≠ n)) := by
  rw [res, BitVec.getLsbD_and, BitVec.getLsbD_not, getLsbD_bitMask h, decide_eq_true h, Bool.true_and, decide_not]

theorem set_getLsbD (n : Nat) (a : Byte) {i : Nat} (h : i < 8) :
    (set n a).getLsbD i = (a.getLsbD i || decide (i = n)) := by
  rw [set, BitVec.getLsbD_or, getLsbD_bitMask h]

theorem cpl_getLsbD (a : Byte) {i : Nat} (h : i < 8) : (cpl a).1.getLsbD i = !a.getLsbD i := by
  rw [cpl, BitVec.getLsbD_not, decide_eq_true h, Bool.true_and]

/-- Settles O12: `1 << n` has bit `n` alone, and the changesets are the definitions. -/
theorem bitAndFlagOperationsTouchWhatTheyName : Obligations.BitAndFlagOperationsTouchWhatTheyName := by
  unfold Obligations.BitAndFlagOperationsTouchWhatTheyName
  intro a ci
  exact ⟨fun n _ => ⟨rfl, fun _ => res_getLsbD n a, fun _ => set_getLsbD n a⟩, fun _ => cpl_getLsbD a, rfl, rfl, rfl⟩

end Sys2Proof.Machine.Alu
end

section
/-! PROOFS. Applying a changeset (R131), and that no operation can fail (R132, R193). -/

namespace Sys2Proof.Machine

/-! ### The flags of F -/

theorem flagByte_bits : ∀ z n h c : Bool,
    (flagByte z n h c).getLsbD 7 = z ∧ (flagByte z n h c).getLsbD 6 = n ∧ (flagByte z n h c).getLsbD 5 = h ∧
      (flagByte z n h c).getLsbD 4 = c ∧ flagByte z n h c &&& 0x0F#8 = 0#8 := by decide

/-- Settles O17: F after a changeset is the byte of the four flags (`applyTo_flagByte`), and the update is of F alone. -/
theorem applyWritesOnlyThePresentFlags : Obligations.ApplyWritesOnlyThePresentFlags := by
  unfold Obligations.ApplyWritesOnlyThePresentFlags
  intro s ch t
  have hf : t.f = flagByte (ch.z.getD (s.f.getLsbD 7)) (ch.n.getD (s.f.getLsbD 6)) (ch.h.getD (s.f.getLsbD 5))
      (ch.c.getD (s.f.getLsbD 4)) := applyTo_flagByte ch s.f
  obtain ⟨hz, hn, hh, hc, hlow⟩ := flagByte_bits (ch.z.getD (s.f.getLsbD 7)) (ch.n.getD (s.f.getLsbD 6))
    (ch.h.getD (s.f.getLsbD 5)) (ch.c.getD (s.f.getLsbD 4))
  rw [← hf] at hz hn hh hc hlow
  exact ⟨hz, hn, hh, hc, hlow, rfl⟩

/-! ### No instruction fails -/

/-- That nothing is asked of a state is kept by every primitive. -/
theorem true_closed : ClosedControl fun _ => True where
  setA _ _ _ := trivial
  setF _ _ _ := trivial
  setB _ _ _ := trivial
  setC _ _ _ := trivial
  setD _ _ _ := trivial
  setE _ _ _ := trivial
  setH _ _ _ := trivial
  setL _ _ _ := trivial
  setSp _ _ _ := trivial
  setPc _ _ _ := trivial
  idle _ _ := trivial
  memRead _ _ _ := trivial
  memWrite _ _ _ _ := trivial
  setIr _ _ _ := trivial
  setIme _ _ _ := trivial
  setEiPending _ _ _ := trivial
  setRun _ _ _ := trivial
  sideWrite _ _ _ _ := trivial

/-- Settles O25: every instruction is made of the primitives (`exec_closedControl`), and none of them fails. -/
theorem everyInstructionAnswersANextState : Obligations.EveryInstructionAnswersANextState := by
  unfold Obligations.EveryInstructionAnswersANextState
  intro i s
  obtain ⟨t, ht, -⟩ := exec_closedControl true_closed i (s := s) trivial
  exact ⟨t, ht⟩

end Sys2Proof.Machine
end

section
/-! PROOFS. Steps of a core that is not Running: Stopped and Locked have none (R223, R401), a Halted step idles or wakes
(R222, R411). -/

namespace Sys2Proof.Machine

/-! ### A stuck core -/

theorem applyReset_afterReset (s : State) : s.applyReset.AfterReset := ⟨rfl, rfl, rfl, rfl, rfl, BitVec.zero_and⟩

theorem resetInScript_eq_none_iff {env : List EnvCycle} {s : State} (hl : s.resetLine = false) :
    resetInScript env s = none ↔ ∀ c ∈ env, EnvAction.reset ∉ c := by
  induction env generalizing s with
  | nil => simp [resetInScript]
  | cons c rest ih =>
    have hline : ((s.setEnv rest).acts c).resetLine = decide (EnvAction.reset ∈ c) := by
      rw [acts_resetLine, setEnv_resetLine, hl, Bool.false_or]
    rw [resetInScript, hline, List.forall_mem_cons]
    by_cases hc : EnvAction.reset ∈ c
    · simp [hc]
    · simp [hc, ih (hline.trans (decide_eq_false hc))]

theorem stuck_noReset {s : State} (h : s.NoReset) (why : Fault) : s.stuck why = .fault why := by
  rw [State.stuck, (resetInScript_eq_none_iff h.1).mpr h.2]

/-- A reset in the script ends the stuck state (log 6). -/
theorem stuck_of_reset {s : State} (hl : s.resetLine = false) (h : ¬s.NoReset) (why : Fault) :
    ∃ t, s.stuck why = .next t ∧ t.AfterReset := by
  cases hr : resetInScript s.env s with
  | none => exact absurd ⟨hl, (resetInScript_eq_none_iff hl).mp hr⟩ h
  | some t =>
    obtain ⟨u, rfl, -⟩ := resetInScript_spends rfl hr
    exact ⟨_, by rw [State.stuck, hr], applyReset_afterReset u⟩

/-! ### What a step can answer -/

theorem step_resetLine {s : State} (hl : s.resetLine = true) : step s = .next s.applyReset := by
  rw [step, if_pos hl]

theorem step_halted {s : State} (hl : s.resetLine = false) (hr : s.run = .halted) :
    step s = .next s.stepHalted.settle := by
  simp [step, hl, hr]

theorem step_stopped {s : State} (hl : s.resetLine = false) (hr : s.run = .stopped) : step s = s.stuck .stopped := by
  simp [step, hl, hr]

theorem step_locked {s : State} (hl : s.resetLine = false) (hr : s.run = .locked) : step s = s.stuck .lockedUp := by
  simp [step, hl, hr]

/-- A core that is not stuck has a step. -/
theorem exists_step_of_not_isStuck {s : State} (h : ¬s.IsStuck) : ∃ t, step s = .next t := by
  cases hl : s.resetLine with
  | true => exact ⟨_, step_resetLine hl⟩
  | false =>
    have hr : s.run = .running ∨ s.run = .halted := by
      cases hr : s.run with
      | running => exact .inl rfl
      | halted => exact .inr rfl
      | stopped => exact absurd (.inl hr) h
      | locked => exact absurd (.inr hr) h
    obtain ⟨-, t, -, -, hstep⟩ := step_spends hl hr
    exact ⟨_, hstep⟩

theorem step_isStuck_of_reset {s : State} (hs : s.IsStuck) (h : ¬s.NoReset) : ∃ t, step s = .next t ∧ t.AfterReset := by
  cases hl : s.resetLine with
  | true => exact ⟨_, step_resetLine hl, applyReset_afterReset s⟩
  | false =>
    obtain hr | hr := hs
    · rw [step_stopped hl hr]
      exact stuck_of_reset hl h _
    · rw [step_locked hl hr]
      exact stuck_of_reset hl h _

/-- A step answers a next state, or it is the fault of a stuck core to which no reset comes. -/
theorem step_cases (s : State) :
    (∃ t, step s = .next t) ∨ s.NoReset ∧ s.run = .stopped ∧ step s = .fault .stopped ∨
      s.NoReset ∧ s.run = .locked ∧ step s = .fault .lockedUp := by
  by_cases hs : s.IsStuck
  · by_cases h : s.NoReset
    · obtain hr | hr := hs
      · exact .inr (.inl ⟨h, hr, (step_stopped h.1 hr).trans (stuck_noReset h _)⟩)
      · exact .inr (.inr ⟨h, hr, (step_locked h.1 hr).trans (stuck_noReset h _)⟩)
    · obtain ⟨t, ht, -⟩ := step_isStuck_of_reset hs h
      exact .inl ⟨t, ht⟩
  · exact .inl (exists_step_of_not_isStuck hs)

/-- Settles O24: `step_cases` has no refusal and two faults; a stuck core looks for a reset in its script. -/
theorem onlyStoppedAndLockedHaveNoStep : Obligations.OnlyStoppedAndLockedHaveNoStep := by
  unfold Obligations.OnlyStoppedAndLockedHaveNoStep
  refine ⟨fun s r h => ?_, fun s r h => ?_, fun s h hr => ?_, fun s h hr => ?_, fun s hs hreset => ?_⟩
  · obtain ⟨t, ht⟩ | ⟨-, -, ht⟩ | ⟨-, -, ht⟩ := step_cases s <;> cases ht.symm.trans h
  · obtain ⟨t, ht⟩ | ⟨hn, hr, ht⟩ | ⟨hn, hr, ht⟩ := step_cases s
    · cases ht.symm.trans h
    · cases ht.symm.trans h
      exact ⟨hn, .inl ⟨hr, rfl⟩⟩
    · cases ht.symm.trans h
      exact ⟨hn, .inr ⟨hr, rfl⟩⟩
  · exact (step_stopped h.1 hr).trans (stuck_noReset h _)
  · exact (step_locked h.1 hr).trans (stuck_noReset h _)
  · obtain ⟨c, hc, hmem⟩ := hreset
    exact step_isStuck_of_reset hs fun h => h.2 c hc hmem

/-! ### A Halted core -/

theorem stepHalted_of_pending_eq_zero {s : State} (h : s.pending = 0#8) : s.stepHalted = s.idle :=
  if_neg (not_not_intro h)

theorem stepHalted_of_pending_ne_zero {s : State} (h : s.pending ≠ 0#8) :
    s.stepHalted = (s.setRun .running).fetchNext := if_pos h

theorem step_halted_noReset {s : State} (h : s.NoReset) (hr : s.run = .halted) : step s = .next s.stepHalted := by
  rw [step_halted h.1 hr, settle_noReset (noReset_closed.stepHalted h)]

/-- Settles O33: the two arms of `State.stepHalted`; the wake-up fetches, and with IME = 0 the check dispatches nothing. -/
theorem haltedStepIdlesOrWakes : Obligations.HaltedStepIdlesOrWakes := by
  unfold Obligations.HaltedStepIdlesOrWakes
  intro s hs hr
  rw [step_halted_noReset hs hr]
  refine ⟨fun hp => ?_, fun hp => ?_, fun hp hime => ?_⟩
  · rw [stepHalted_of_pending_eq_zero hp]
    exact ⟨_, rfl, idle_regs s, emits_idle hs⟩
  · rw [stepHalted_of_pending_ne_zero hp]
    rfl
  · rw [stepHalted_of_pending_ne_zero hp]
    have hrun : Emits s (s.setRun .running) [] := .none rfl rfl rfl rfl
    exact ⟨_, rfl, fetchNext_regs_of_ime_false (s := s.setRun .running) hime,
      hrun.trans (emits_fetchNext_of_ime_false (s := s.setRun .running) hs hime)⟩

end Sys2Proof.Machine
end

section
/-! PROOFS. The order of a Running step: the instruction's other bytes, its meaning, the post-fetch (R211, R213, R216). -/

namespace Sys2Proof

/-! ### What the decoded instruction says of the first byte -/

theorem DecodesTo.eq_of_illegal {op op' : Byte} {rest : List Byte} {i : Instr} (h : DecodesTo (op :: rest) i)
    (hi : i = .illegal op') : op' = op := by
  cases h with
  | prefixAlone => cases hi
  | prefixed op2 rest => exact absurd hi (decodePrefixed_ne_illegal op2 op')
  | plain | byteImm | wordImm => exact (decodeUnprefixed_eq_illegal_iff.mp hi).1

/-- Only the byte 0xCB decodes to the prefix. -/
theorem DecodesTo.selectsPrefixed_eq_false {op : Byte} {rest : List Byte} {i : Instr} (h : DecodesTo (op :: rest) i)
    (hop : op ≠ 0xCB#8) : i.selectsPrefixed = false := by
  unfold Instr.selectsPrefixed
  split
  · by_cases hstop : op = 0x10#8
    · subst hstop
      have hdec : decode (0x10#8 :: rest) = .ok .stop := rfl
      cases hdec.symm.trans h.decode_eq
    · obtain ⟨rest', hrest⟩ := h.eq_encode_append (by simpa using hstop)
      exact absurd (List.cons.inj hrest).1 hop
  · rfl

theorem DecodesTo.ownFetch_iff {op : Byte} {rest : List Byte} {i : Instr} (h : DecodesTo (op :: rest) i) :
    i.ownFetch = true ↔ i = .halt ∨ i = .stop ∨ i = .illegal op := by
  constructor
  · intro ho
    obtain hi | hi | ⟨op', hi⟩ := Instr.ownFetch_cases ho
    · exact .inl hi
    · exact .inr (.inl hi)
    · exact .inr (.inr (h.eq_of_illegal hi ▸ hi))
  · rintro (rfl | rfl | rfl) <;> rfl

namespace Machine

/-! ### Reading the immediates -/

theorem fetchInstr_of_byteImm {s : State} (h : operandCount s.ir = 1) :
    s.fetchInstr = (decodeUnprefixed s.ir s.imm8.1 0#8, s.imm8.2) := by
  simp only [State.fetchInstr, h]

theorem fetchInstr_of_wordImm {s : State} (h : operandCount s.ir = 2) :
    s.fetchInstr = (decodeUnprefixed s.ir s.imm8.1 s.imm8.2.imm8.1, s.imm8.2.imm8.2) := by
  simp only [State.fetchInstr, h]

/-- The instruction fetched is the one that the bytes at PC decode to, if the second of them is still there in the second
cycle. -/
theorem decodesTo_fetchInstr {s : State} (h : s.EnvSpares 1 (s.pc + 1)) (hop : s.ir ≠ 0xCB#8) :
    DecodesTo [s.ir, s.readByte s.pc, s.readByte (s.pc + 1)] s.fetchInstr.1 := by
  obtain hn | ⟨hn, -⟩ | ⟨hn, -⟩ := operandCount_cases s.ir
  · rw [fetchInstr_of_noOperand hn]
    exact .plain _ hop hn
  · rw [fetchInstr_of_byteImm hn]
    exact .byteImm _ _ hop hn
  · rw [fetchInstr_of_wordImm hn, imm8_imm8_fst h]
    exact .wordImm _ _ _ hop hn

theorem fetchInstr_regs (s : State) :
    s.fetchInstr.2.regs = { s.regs with pc := s.pc + BitVec.ofNat 16 (operandCount s.ir) } := by
  obtain hn | ⟨hn, -⟩ | ⟨hn, -⟩ := operandCount_cases s.ir
  · rw [fetchInstr_of_noOperand hn, hn, BitVec.add_zero]
    rfl
  · rw [fetchInstr_of_byteImm hn, hn, imm8_regs]
    rfl
  · have hpc : s.imm8.2.pc = s.pc + 1 := congrArg Regs.pc (imm8_regs s)
    rw [fetchInstr_of_wordImm hn, hn, imm8_regs, imm8_regs, hpc, BitVec.add_assoc]
    rfl

theorem emits_fetchInstr {s : State} (hs : s.NoReset) (h : s.EnvSpares 1 (s.pc + 1)) :
    Emits s s.fetchInstr.2
      ([.read s.pc (s.readByte s.pc), .read (s.pc + 1) (s.readByte (s.pc + 1))].take (operandCount s.ir)) := by
  have h1 := emits_imm8 hs
  obtain hn | ⟨hn, -⟩ | ⟨hn, -⟩ := operandCount_cases s.ir
  · rw [fetchInstr_of_noOperand hn, hn]
    exact .none rfl rfl rfl rfl
  · rw [fetchInstr_of_byteImm hn, hn]
    exact h1
  · have hpc : s.imm8.2.pc = s.pc + 1 := congrArg Regs.pc (imm8_regs s)
    have h2 := emits_imm8 (h1.noReset hs)
    rw [← imm8_fst s.imm8.2, imm8_imm8_fst h, hpc] at h2
    rw [fetchInstr_of_wordImm hn, hn]
    exact h1.trans h2

/-! ### Running the meaning, and what follows it -/

theorem stepRunning_of_exec {s t : State} (hp : s.fetchInstr.1.selectsPrefixed = false)
    (he : exec s.fetchInstr.1 s.fetchInstr.2 = .next t) : stepRunning s = .next (t.postFetch s.fetchInstr.1) := by
  simp [stepRunning, he, hp]

/-- After the prefix the second opcode, now in IR, is executed within the same step (R216). -/
theorem stepRunning_of_prefix {s t : State} (hop : s.ir = 0xCB#8)
    (he : exec (decodePrefixed (s.readByte s.pc)) s.selectPrefixed = .next t) :
    stepRunning s = .next (t.postFetch (decodePrefixed (s.readByte s.pc))) := by
  have hfetch : s.fetchInstr = (.prefixCb, s) := by
    rw [fetchInstr_of_noOperand (by rw [hop]; rfl), hop]
    rfl
  have hprefix : exec .prefixCb s = .next s.selectPrefixed := rfl
  have hir : s.selectPrefixed.ir = s.readByte s.pc := rfl
  simp only [stepRunning, hfetch, hprefix, hir, he]
  rfl

theorem selectPrefixed_regs (s : State) :
    s.selectPrefixed.regs = { s.regs with pc := s.pc + 1, ir := s.readByte s.pc } :=
  congrArg (fun g : Regs => { g with ir := s.readByte s.pc }) (imm8_regs s)

theorem emits_selectPrefixed {s : State} (hs : s.NoReset) :
    Emits s s.selectPrefixed [.read s.pc (s.readByte s.pc)] := (emits_imm8 hs).trans (.none rfl rfl rfl rfl)

theorem postFetch_noReset {t : State} (ht : t.NoReset) (i : Instr) :
    t.postFetch i = if i.ownFetch = true then t else t.fetchNext := by
  rw [State.postFetch, settle_noReset ht, settle_noReset (noReset_closed.fetchNext ht)]

/-- Once the bytes of `i` are read, its meaning answers a state, and the step goes on from that one with the post-fetch. -/
theorem step_of_stepRunning {s s' : State} {i : Instr} {cs : List BusCycle} {rest : List Byte} (hs : s.NoReset)
    (hr : s.run = .running) (hd : DecodesTo (s.ir :: rest) i) (hemits : Emits s s' cs)
    (hstep : ∀ t, exec i s' = .next t → stepRunning s = .next (t.postFetch i)) :
    ∃ t, exec i s' = .next t ∧
      step s = .next (if i = .halt ∨ i = .stop ∨ i = .illegal s.ir then t else t.fetchNext) := by
  obtain ⟨t, ht, hn⟩ := exec_closedControl noReset_closed i (hemits.noReset hs)
  refine ⟨t, ht, ?_⟩
  rw [step_running hs.1 hr, hstep t ht, postFetch_noReset hn]
  simp only [hd.ownFetch_iff]

/-- Settles O19: a CB-prefixed instruction is run by the prefix's own step, any other one after its immediates. -/
theorem stepRunsTheDecodedInstruction : Obligations.StepRunsTheDecodedInstruction := by
  unfold Obligations.StepRunsTheDecodedInstruction
  intro s i hs hr hspares hdec k reads
  have hd := decode_eq_ok_iff.mp hdec
  by_cases hop : s.ir = 0xCB#8
  · have hi : i = decodePrefixed (s.readByte s.pc) := by
      rw [hop] at hdec
      cases hdec
      rfl
    have hk : k = 1 := by simp only [k, hop]; rfl
    have hemits : Emits s s.selectPrefixed reads := by
      simp only [reads, hk]
      exact emits_selectPrefixed hs
    obtain ⟨t, ht, hstep⟩ := step_of_stepRunning hs hr hd hemits fun t ht => by
      subst hi
      exact stepRunning_of_prefix hop ht
    refine ⟨s.selectPrefixed, t, ?_, hemits, ht, hstep⟩
    rw [selectPrefixed_regs, hk, if_pos hop]
    rfl
  · have hi : s.fetchInstr.1 = i := Except.ok.inj ((decodesTo_fetchInstr hspares hop).decode_eq.symm.trans hdec)
    have hk : k = operandCount s.ir := by simp only [k, operandCount, hop, or_false]
    have hemits : Emits s s.fetchInstr.2 reads := by
      simp only [reads, hk]
      exact emits_fetchInstr hs hspares
    obtain ⟨t, ht, hstep⟩ := step_of_stepRunning hs hr hd hemits fun t ht => by
      subst hi
      exact stepRunning_of_exec (hd.selectsPrefixed_eq_false hop) ht
    refine ⟨s.fetchInstr.2, t, ?_, hemits, ht, hstep⟩
    rw [fetchInstr_regs, hk, if_neg hop]
    rfl

end Machine

end Sys2Proof
end

section
/-! PROOFS. What is shared by the statements of the form `Completes`: what an update of the flags, of the accumulator or
of a pair leaves of the registers, and the cycles it spends. -/

namespace Sys2Proof.Machine

/-! ### Registers and cycles of the shared operations -/

theorem setHL_regs (s : State) (v : Word) : (s.setHL v).regs = { s.regs with h := hiByte v, l := loByte v } := rfl

theorem emits_setHL (s : State) (v : Word) : Emits s (s.setHL v) [] := .none rfl rfl rfl rfl

theorem emits_setSp (s : State) (v : Word) : Emits s (s.setSp v) [] := .none rfl rfl rfl rfl

theorem emits_setPc (s : State) (v : Word) : Emits s (s.setPc v) [] := .none rfl rfl rfl rfl

/-- One more internal cycle at the end of a stretch of cycles. -/
theorem Emits.idle_after {s t : State} {cs : List BusCycle} (h : Emits s t cs) (hs : s.NoReset) :
    Emits s t.idle (cs ++ [.idle]) := h.trans (emits_idle (h.noReset hs))

/-- F after a changeset, by the names of the flags (`applyTo_flagByte`). -/
theorem applyTo_flags (s : State) (ch : FlagChange) :
    ch.applyTo s.f &&& 0xF0#8 =
      flagByte (ch.z.getD s.flagZ) (ch.n.getD s.flagN) (ch.h.getD s.flagH) (ch.c.getD s.flagC) :=
  applyTo_flagByte ch s.f

theorem completes_unchanged {i : Instr} {s : State} (he : exec i s = .next s) : Completes i s s.regs [] :=
  ⟨_, he, rfl, .none rfl rfl rfl rfl⟩

theorem completes_applyFlags {i : Instr} {s : State} {ch : FlagChange} (he : exec i s = .next (s.applyFlags ch)) :
    Completes i s
      { s.regs with
        f := flagByte (ch.z.getD s.flagZ) (ch.n.getD s.flagN) (ch.h.getD s.flagH) (ch.c.getD s.flagC) } [] :=
  ⟨_, he, by rw [applyFlags_regs, applyTo_flags], emits_applyFlags s ch⟩

/-- An instruction that puts a result and its changeset into A and F, in no cycle. -/
theorem completes_accept {i : Instr} {s : State} {r : Byte × FlagChange} (he : exec i s = .next (s.accept r)) :
    Completes i s
      { s.regs with
        a := r.1
        f := flagByte (r.2.z.getD s.flagZ) (r.2.n.getD s.flagN) (r.2.h.getD s.flagH) (r.2.c.getD s.flagC) } [] :=
  ⟨_, he, by rw [accept_regs, applyTo_flags], .none rfl rfl rfl rfl⟩

theorem Regs.withR8_withF (g : Regs) (r : R8) (v x : Byte) :
    ({ g with f := x } : Regs).withR8 r v = { g.withR8 r v with f := x } := by cases r <;> rfl

end Sys2Proof.Machine
end

section
/-! PROOFS. The control instructions and the jumps (R240, R242 to R244, R329, R331, R336 to R339, R352). -/

namespace Sys2Proof.Machine

/-- Settles O59: each meaning is an update of CORE's own registers, but PREFIX CB, which is `Imm8()` into IR. -/
theorem controlInstructions : Obligations.ControlInstructions := by
  unfold Obligations.ControlInstructions
  intro s hs
  refine ⟨completes_unchanged (exec_nop s), ⟨_, exec_di s, rfl, ?_⟩, ⟨_, exec_ei s, rfl, ?_⟩,
    ⟨_, exec_stop s, rfl, ?_⟩, fun op => ⟨_, exec_illegal op s, rfl, ?_⟩,
    ⟨_, exec_prefixCb s, selectPrefixed_regs s, emits_selectPrefixed hs⟩⟩
  all_goals exact .none rfl rfl rfl rfl

/-! ### Jumps -/

/-- A jump sets PC and spends one idle cycle (R243, R336). -/
theorem completes_jump {i : Instr} {s : State} {a : Word} (hs : s.NoReset) (he : exec i s = .next (s.jump a)) :
    Completes i s { s.regs with pc := a } [.idle] :=
  ⟨_, he, idle_regs _, (emits_setPc s a).idle_after hs⟩

theorem exec_jrCc_of_cond {s : State} {q : Cond} (h : s.cond q = true) (e : Byte) :
    exec (Instr.jrCc q e) s = .next (s.jump (s.pc + e.signExtend 16)) := by
  rw [exec_jrCc, State.jumpRelativeIf, if_pos h]
  rfl

theorem exec_jrCc_of_not_cond {s : State} {q : Cond} (h : s.cond q = false) (e : Byte) :
    exec (Instr.jrCc q e) s = .next s := by
  rw [exec_jrCc, State.jumpRelativeIf, h]
  rfl

theorem exec_jpCc_of_cond {s : State} {q : Cond} (h : s.cond q = true) (a : Word) :
    exec (Instr.jpCc q a) s = .next (s.jump a) := by
  rw [exec_jpCc, State.jumpIf, if_pos h]

theorem exec_jpCc_of_not_cond {s : State} {q : Cond} (h : s.cond q = false) (a : Word) :
    exec (Instr.jpCc q a) s = .next s := by
  rw [exec_jpCc, State.jumpIf, h]
  rfl

/-- Settles O53: every jump but JP HL is `State.jump`, a conditional one if its condition holds. -/
theorem jumpsSetPc : Obligations.JumpsSetPc := by
  unfold Obligations.JumpsSetPc
  intro s hs holds goes
  have hcond : ∀ q, holds q = s.cond q := fun q => by cases q <;> rfl
  refine ⟨fun e => completes_jump hs (exec_jrE8 e s), fun a => completes_jump hs (exec_jpA16 a s),
    ⟨_, exec_jpHl s, rfl, emits_setPc s s.hl⟩, fun q hq => ?_, fun q hq => ?_⟩
  · rw [hcond] at hq
    exact ⟨fun e => completes_jump hs (exec_jrCc_of_cond hq e), fun a => completes_jump hs (exec_jpCc_of_cond hq a)⟩
  · rw [hcond] at hq
    exact ⟨fun e => completes_unchanged (exec_jrCc_of_not_cond hq e),
      fun a => completes_unchanged (exec_jpCc_of_not_cond hq a)⟩

end Sys2Proof.Machine
end

section
/-! PROOFS. The loads through a pointer and the word loads (R241, R245, R247 to R254, R324, R330). -/

namespace Sys2Proof.Machine

/-! ### Loads through a pointer -/

/-- What an access through a pointer makes of HL (R183, R184). -/
def steppedHl (hl : Word) : Ind → Word
  | .bc => hl
  | .de => hl
  | .hlInc => hl + 1
  | .hlDec => hl - 1

theorem regs_eq_with_hl (s : State) : s.regs = { s.regs with h := hiByte s.hl, l := loByte s.hl } := by
  rw [State.hl, hiByte_pair, loByte_pair]
  rfl

theorem indUpdate_regs (s : State) (m : Ind) :
    (s.indUpdate m).regs = { s.regs with h := hiByte (steppedHl s.hl m), l := loByte (steppedHl s.hl m) } := by
  cases m
  case bc => exact regs_eq_with_hl s
  case de => exact regs_eq_with_hl s
  case hlInc => rfl
  case hlDec => rfl

theorem emits_indUpdate (s : State) (m : Ind) : Emits s (s.indUpdate m) [] := by
  cases m <;> exact .none rfl rfl rfl rfl

theorem loadA_regs (s : State) (addr : Word) : (s.loadA addr).regs = { s.regs with a := s.readByte addr } :=
  congrArg (fun g : Regs => { g with a := s.readByte addr }) (cycle_regs s _)

theorem emits_loadA {s : State} (hs : s.NoReset) (addr : Word) :
    Emits s (s.loadA addr) [.read addr (s.readByte addr)] :=
  (emits_memRead hs addr).trans (.none rfl rfl rfl rfl)

theorem completes_storeInd {s : State} (hs : s.NoReset) (m : Ind) :
    Completes (Instr.storeInd m) s
      { s.regs with h := hiByte (steppedHl s.hl m), l := loByte (steppedHl s.hl m) } [.write (s.indAddr m) s.a] := by
  have hregs := memWrite_regs s (s.indAddr m) s.a
  refine ⟨_, exec_storeInd m s, ?_, (emits_memWrite hs _ _).trans (emits_indUpdate _ m)⟩
  rw [State.storeAInd, indUpdate_regs, hl_of_regs hregs, hregs]

theorem completes_loadInd {s : State} (hs : s.NoReset) (m : Ind) :
    Completes (Instr.loadInd m) s
      { s.regs with a := s.readByte (s.indAddr m), h := hiByte (steppedHl s.hl m), l := loByte (steppedHl s.hl m) }
      [.read (s.indAddr m) (s.readByte (s.indAddr m))] := by
  have hregs := loadA_regs s (s.indAddr m)
  have hhl : (s.loadA (s.indAddr m)).hl = s.hl :=
    congrArg₂ pair (congrArg Regs.h hregs) (congrArg Regs.l hregs)
  refine ⟨_, exec_loadInd m s, ?_, (emits_loadA hs _).trans (emits_indUpdate _ m)⟩
  rw [State.loadAInd, indUpdate_regs, hhl, hregs]

/-- Settles O42: the access is made at the address the pointer held before, and then HL is stepped. -/
theorem pointerLoadsMoveAAndStepHl : Obligations.PointerLoadsMoveAAndStepHl := by
  unfold Obligations.PointerLoadsMoveAAndStepHl
  intro m s hs addr hl
  have haddr : addr = s.indAddr m := by cases m <;> rfl
  have hhl : hl = steppedHl s.hl m := by cases m <;> rfl
  rw [haddr, hhl]
  exact ⟨completes_storeInd hs m, completes_loadInd hs m⟩

/-! ### Word loads -/

theorem completes_ldAtA16Sp {s : State} (hs : s.NoReset) (a : Word) :
    Completes (.ldAtA16Sp a) s s.regs [.write a (loByte s.sp), .write (a + 1) (hiByte s.sp)] := by
  have hlow := emits_memWrite hs a (loByte s.sp)
  refine ⟨_, exec_ldAtA16Sp a s, ?_, hlow.trans (emits_memWrite (hlow.noReset hs) _ _)⟩
  rw [State.storeSp, memWrite_regs, memWrite_regs]

/-- F after a sum with SP, by the unsigned low bytes (R157). -/
theorem applyTo_spPlusE (s : State) (e : Byte) :
    (Alu.spPlusE s.sp e).2.applyTo s.f &&& 0xF0#8 =
      flagByte false false (decide (15 < s.sp.toNat % 16 + e.toNat % 16))
        (decide (255 < s.sp.toNat % 256 + e.toNat)) := by
  rw [Alu.spPlusE_snd, applyTo_flags]
  rfl

theorem loadHlSpPlus_regs (s : State) (e : Byte) :
    (s.loadHlSpPlus e).regs =
      { s.regs with
        h := hiByte (s.sp + e.signExtend 16)
        l := loByte (s.sp + e.signExtend 16)
        f := flagByte false false (decide (15 < s.sp.toNat % 16 + e.toNat % 16))
          (decide (255 < s.sp.toNat % 256 + e.toNat)) } := by
  rw [State.loadHlSpPlus, idle_regs, applyFlags_regs, setHL_regs, setHL_f, applyTo_spPlusE, Alu.spPlusE_fst]

/-- Settles O44: the operand goes through the pair's two halves, or through two writes, low byte first. -/
theorem wordLoads : Obligations.WordLoads := by
  unfold Obligations.WordLoads
  intro s hs
  refine ⟨fun p v => ⟨_, exec_ld16Imm p v s, setRp_regs s p v, emits_setRp s p v⟩, completes_ldAtA16Sp hs,
    ⟨_, exec_ldSpHl s, idle_regs _, (emits_setSp s s.hl).idle_after hs⟩,
    fun e => ⟨_, exec_ldHlSpE8 e s, loadHlSpPlus_regs s e, ?_⟩⟩
  exact ((emits_setHL s _).trans (emits_applyFlags _ _)).idle_after hs

end Sys2Proof.Machine
end

section
/-! PROOFS. INC and DEC of a byte, and the 16-bit arithmetic (R246, R255 to R260, R322). -/

namespace Sys2Proof.Machine

namespace Alu

theorem inc_fst (v : Byte) : (inc v).1 = v + 1 := by
  rw [inc_eq, BitVec.ofNat_add, BitVec.ofNat_toNat, BitVec.setWidth_eq]
  rfl

theorem dec_fst (v : Byte) : (dec v).1 = v - 1 := by
  rw [dec_eq, BitVec.ofNat_add, BitVec.ofNat_toNat, BitVec.setWidth_eq, BitVec.sub_eq_add_neg]
  rfl

theorem add16_fst (hl v : Word) : (add16 hl v).1 = hl + v := by
  rw [add16_eq]
  rfl

theorem add16_snd (hl v : Word) :
    (add16 hl v).2 = { z := none, n := some false, h := some (decide (0x0FFF < hl.toNat % 4096 + v.toNat % 4096)),
                       c := some (decide (0xFFFF < hl.toNat + v.toNat)) } := by rw [add16_eq]

end Alu

/-! ### Bytes -/

/-- Read the operand, apply a changeset, write the operand back (R257 to R260). -/
theorem completes_modifyR8 {i : Instr} {s : State} {r : R8} {ch : FlagChange} {w : Byte} (hs : s.NoReset)
    (he : exec i s = .next (((s.readR8 r).2.applyFlags ch).writeR8 r w)) :
    Completes i s
      { s.regs.withR8 r w with
        f := flagByte (ch.z.getD s.flagZ) (ch.n.getD s.flagN) (ch.h.getD s.flagH) (ch.c.getD s.flagC) }
      (s.operandRead r ++ s.operandWrite r w) := by
  have hread := readR8_regs s r
  have hf : (s.readR8 r).2.f = s.f := congrArg Regs.f hread
  have hhl : ((s.readR8 r).2.applyFlags ch).hl = s.hl := (hl_of_regs hread :)
  have hemits := (emits_readR8 hs r).trans (emits_applyFlags _ ch)
  rw [List.append_nil] at hemits
  refine ⟨_, he, ?_, ?_⟩
  · rw [writeR8_regs, applyFlags_regs, hread, hf, applyTo_flags, Regs.withR8_withF]
  · rw [← operandWrite_congr hhl]
    exact hemits.trans (emits_writeR8 (hemits.noReset hs) r w)

theorem exec_inc8_eq (r : R8) (s : State) :
    exec (Instr.inc8 r) s =
      .next (((s.readR8 r).2.applyFlags (Alu.inc (s.operand r)).2).writeR8 r (s.operand r + 1)) := by
  rw [exec_inc8, State.incR8, readR8_fst, Alu.inc_fst]

theorem exec_dec8_eq (r : R8) (s : State) :
    exec (Instr.dec8 r) s =
      .next (((s.readR8 r).2.applyFlags (Alu.dec (s.operand r)).2).writeR8 r (s.operand r - 1)) := by
  rw [exec_dec8, State.decR8, readR8_fst, Alu.dec_fst]

/-- Settles O48: a read and a write of the operand, with the flags of `Alu.inc_eq` and `Alu.dec_eq`. -/
theorem incAndDecOfAByte : Obligations.IncAndDecOfAByte := by
  unfold Obligations.IncAndDecOfAByte
  intro r s hs v
  have hinc := completes_modifyR8 hs (exec_inc8_eq r s)
  have hdec := completes_modifyR8 hs (exec_dec8_eq r s)
  rw [Alu.inc_eq] at hinc
  rw [Alu.dec_eq] at hdec
  simp only [BitVec.toNat_eq]
  exact ⟨hinc, hdec⟩

/-! ### Words -/

theorem addHlPair_regs (s : State) (p : Rp) :
    (s.addHlPair p).regs =
      { s.regs with
        h := hiByte (s.hl + s.regs.rp p)
        l := loByte (s.hl + s.regs.rp p)
        f := flagByte s.flagZ false (decide (0x0FFF < s.hl.toNat % 4096 + (s.regs.rp p).toNat % 4096))
          (decide (0xFFFF < s.hl.toNat + (s.regs.rp p).toNat)) } := by
  rw [State.addHlPair, idle_regs, applyFlags_regs, setHL_regs, setHL_f, getRp_regs, applyTo_flags, Alu.add16_fst,
    Alu.add16_snd]
  rfl

theorem addSp_regs (s : State) (e : Byte) :
    (s.addSp e).regs =
      { s.regs with
        sp := s.sp + e.signExtend 16
        f := flagByte false false (decide (15 < s.sp.toNat % 16 + e.toNat % 16))
          (decide (255 < s.sp.toNat % 256 + e.toNat)) } := by
  rw [State.addSp, idle_regs, idle_regs, applyFlags_regs, setSp_f, applyTo_spPlusE, Alu.spPlusE_fst]
  rfl

/-- A pair set, and one idle cycle (R255, R256). -/
theorem completes_setRp_idle {i : Instr} {s : State} {p : Rp} {v : Word} (hs : s.NoReset)
    (he : exec i s = .next (s.setRp p v).idle) : Completes i s (s.regs.withRp p (hiByte v) (loByte v)) [.idle] :=
  ⟨_, he, (idle_regs _).trans (setRp_regs s p v), (emits_setRp s p v).idle_after hs⟩

/-- Settles O49: the sums are `Alu.add16_eq` and `Alu.spPlusE_fst`, each followed by its idle cycles. -/
theorem sixteenBitArithmetic : Obligations.SixteenBitArithmetic := by
  unfold Obligations.SixteenBitArithmetic
  intro s hs
  refine ⟨fun p => ⟨⟨_, exec_addHl p s, addHlPair_regs s p, ?_⟩, ?_, ?_⟩,
    fun e => ⟨_, exec_addSpE8 e s, addSp_regs s e, ?_⟩⟩
  · exact ((emits_setHL s _).trans (emits_applyFlags _ _)).idle_after hs
  · exact completes_setRp_idle hs (by rw [exec_inc16, State.incPair, getRp_regs])
  · exact completes_setRp_idle hs (by rw [exec_dec16, State.decPair, getRp_regs])
  · exact (((emits_setSp s _).trans (emits_applyFlags _ _)).idle_after hs).idle_after hs

end Sys2Proof.Machine
end

section
/-! PROOFS. The accumulator rotates, DAA, CPL, SCF and CCF (R263 to R270). -/

namespace Sys2Proof.Machine

namespace Alu

/-! ### The rotates as the library's shifts -/

theorem rlc_fst (a : Byte) : (rlc a).1 = a.rotateLeft 1 := by
  refine BitVec.eq_of_getLsbD_eq fun i hi => ?_
  rw [rlc_getLsbD a hi, BitVec.getLsbD_rotateLeft, Bool.cond_decide]
  split
  · obtain rfl : i = 0 := by omega
    rfl
  · rw [decide_eq_true hi, Bool.true_and, show (i + 7) % 8 = i - 1 by omega]

theorem rrc_fst (a : Byte) : (rrc a).1 = a.rotateRight 1 := by
  refine BitVec.eq_of_getLsbD_eq fun i hi => ?_
  rw [rrc_getLsbD a hi, BitVec.getLsbD_rotateRight, Bool.cond_decide]
  split
  · rw [Nat.mod_eq_of_lt (by omega), Nat.add_comm]
  · obtain rfl : i = 7 := by omega
    rfl

/-- The carry in, as the byte that the statements have. -/
theorem getLsbD_ite_one (x : Bool) (i : Nat) : (if x then 1#8 else 0#8).getLsbD i = (x && decide (i = 0)) := by
  cases x
  · simp
  · simp [BitVec.getLsbD_one]

theorem rl_fst (a : Byte) (ci : Bool) : (rl a ci).1 = a <<< 1 ||| (if ci then 1#8 else 0#8) := by
  refine BitVec.eq_of_getLsbD_eq fun i hi => ?_
  rw [rl_getLsbD a ci hi, BitVec.getLsbD_or, BitVec.getLsbD_shiftLeft, getLsbD_ite_one]
  cases i <;> simp [hi]

theorem rr_fst (a : Byte) (ci : Bool) : (rr a ci).1 = a >>> 1 ||| (if ci then 1#8 else 0#8) <<< 7 := by
  refine BitVec.eq_of_getLsbD_eq fun i hi => ?_
  rw [rr_getLsbD a ci hi, BitVec.getLsbD_or, BitVec.getLsbD_ushiftRight, BitVec.getLsbD_shiftLeft, getLsbD_ite_one]
  by_cases h7 : i = 7
  · subst h7
    simp
  · have hlt : i < 7 := by omega
    simp [h7, hlt, Nat.add_comm]

/-! ### DAA -/

theorem daa_snd (a : Byte) (n h c : Bool) :
    (daa a n h c).2 = { z := some (decide ((daa a n h c).1 = 0#8)), n := none, h := some false,
                        c := some (c || (!n && decide (0x99 < a.toNat))) } := by
  cases n with
  | false => rfl
  | true =>
    rw [Bool.not_true, Bool.false_and, Bool.or_false]
    rfl

end Alu

theorem completes_daa (s : State) :
    Completes .daa s
      { s.regs with
        a := (Alu.daa s.a s.flagN s.flagH s.flagC).1
        f := flagByte (decide ((Alu.daa s.a s.flagN s.flagH s.flagC).1 = 0#8)) s.flagN false
          (s.flagC || (!s.flagN && decide (0x99 < s.a.toNat))) } [] := by
  have h := completes_accept (exec_daa s)
  rwa [Alu.daa_snd] at h

/-- Settles O50: each result goes into A and F with its changeset (`completes_accept`); the rotates are the library's. -/
theorem accumulatorAndFlagInstructions : Obligations.AccumulatorAndFlagInstructions := by
  unfold Obligations.AccumulatorAndFlagInstructions
  intro s a cin rotated adjusted
  refine ⟨?_, ?_, ?_, ?_, completes_daa s, completes_accept (exec_cpl s),
    completes_applyFlags (ch := Alu.scf) (exec_scf s), completes_applyFlags (ch := Alu.ccf s.flagC) (exec_ccf s)⟩
  · rw [← Alu.rlc_fst]
    exact completes_accept (exec_rlca s)
  · rw [← Alu.rrc_fst]
    exact completes_accept (exec_rrca s)
  · rw [← Alu.rl_fst]
    exact completes_accept (exec_rla s)
  · rw [← Alu.rr_fst]
    exact completes_accept (exec_rra s)

end Sys2Proof.Machine
end

section
/-! PROOFS. The 8-bit loads and HALT (R261, R262, R290 to R293). -/

namespace Sys2Proof.Machine

/-! ### Byte loads -/

theorem copyR8_regs (s : State) (x r : R8) : (s.copyR8 x r).regs = s.regs.withR8 x (s.operand r) := by
  rw [State.copyR8, writeR8_regs, readR8_regs, readR8_fst]

/-- The read of the source leaves HL, and so the address of the write, as it was. -/
theorem emits_copyR8 {s : State} (hs : s.NoReset) (x r : R8) :
    Emits s (s.copyR8 x r) (s.operandRead r ++ s.operandWrite x (s.operand r)) := by
  have hread := emits_readR8 hs r
  rw [State.copyR8, readR8_fst, ← operandWrite_congr (hl_of_regs (readR8_regs s r))]
  exact hread.trans (emits_writeR8 (hread.noReset hs) x _)

/-- Settles O41: a read of the source (`State.copyR8`) or none, then a write of the destination (`State.writeR8`). -/
theorem byteLoadsCopyTheirOperand : Obligations.ByteLoadsCopyTheirOperand := by
  unfold Obligations.ByteLoadsCopyTheirOperand
  exact ⟨fun x r s hrow hs => ⟨_, exec_ld8 x r hrow s, copyR8_regs s x r, emits_copyR8 hs x r⟩,
    fun x v s hs => ⟨_, exec_ld8Imm x v s, writeR8_regs s x v, emits_writeR8 hs x v⟩⟩

/-! ### HALT -/

theorem emits_setIr (s : State) (v : Byte) : Emits s (s.setIr v) [] := .none rfl rfl rfl rfl

theorem haltWith_of_pending_eq_zero {s : State} (h : s.pending = 0#8) (bug : Bool) :
    s.haltWith bug = s.setRun .halted := if_neg (not_not_intro h)

theorem haltWith_eq_fetchNext {s : State} {bug : Bool} (hb : bug = false ∨ s.ime = true) (hp : s.pending ≠ 0#8) :
    s.haltWith bug = s.fetchNext := (haltWith_of_no_bug hb).trans (if_pos hp)

/-- Under HALT_BUG and with IME = 0 the opcode is read without the increment of PC, and the check dispatches nothing. -/
theorem haltWith_true_of_ime_false {s : State} (hp : s.pending ≠ 0#8) (h : s.ime = false) :
    s.haltWith true = ((s.memRead s.pc).2.setIr (s.readByte s.pc)).commitEi := by
  rw [State.haltWith, if_pos hp, h]
  exact interruptCheck_of_ime_false ((cycle_ime s _).trans h)

theorem haltWith_regs_of_ime_false {s : State} (hp : s.pending ≠ 0#8) (h : s.ime = false) (bug : Bool) :
    (s.haltWith bug).regs =
      { s.regs with
        ir := s.readByte s.pc
        pc := if bug then s.pc else s.pc + 1
        ime := s.eiPending
        eiPending := false } := by
  cases bug with
  | false =>
    rw [haltWith_eq_fetchNext (.inl rfl) hp]
    exact fetchNext_regs_of_ime_false h
  | true =>
    rw [haltWith_true_of_ime_false hp h, commitEi_regs]
    simp [State.regs, h]

theorem emits_haltWith_of_ime_false {s : State} (hs : s.NoReset) (hp : s.pending ≠ 0#8) (h : s.ime = false)
    (bug : Bool) : Emits s (s.haltWith bug) [.read s.pc (s.readByte s.pc)] := by
  cases bug with
  | false =>
    rw [haltWith_eq_fetchNext (.inl rfl) hp]
    exact emits_fetchNext_of_ime_false hs h
  | true =>
    rw [haltWith_true_of_ime_false hp h]
    exact ((emits_memRead hs s.pc).trans (emits_setIr _ _)).trans (emits_commitEi _)

/-- Settles O34: the three cases of `State.haltWith`, each for both values of its parameter. -/
theorem haltHaltsOrFallsThrough : Obligations.HaltHaltsOrFallsThrough := by
  unfold Obligations.HaltHaltsOrFallsThrough
  intro s hs
  refine ⟨fun hp => ?_, fun hp hime => ?_, fun hp hime => ?_⟩
  · exact ⟨s.setRun .halted, congrArg _ (haltWith_of_pending_eq_zero hp _), rfl, .none rfl rfl rfl rfl⟩
  · rw [exec_halt, haltWith_eq_fetchNext (.inr hime) hp]
  · exact ⟨_, exec_halt s, haltWith_regs_of_ime_false hp hime _, emits_haltWith_of_ime_false hs hp hime _⟩

end Sys2Proof.Machine
end

section
/-! PROOFS. The 8-bit arithmetic and logic on A (R300 to R307, R343 to R350). -/

namespace Sys2Proof.Machine

/-! ### The operation on A, and the read of its operand -/

theorem aluResult_congr {s t : State} (h : t.regs = s.regs) (x : AluOp) (v : Byte) :
    t.aluResult x v = s.aluResult x v := by
  have ha : t.a = s.a := congrArg Regs.a h
  have hc : t.flagC = s.flagC := congrArg (fun g => g.f.getLsbD 4) h
  cases x <;> simp only [State.aluResult, ha, hc]

/-- The operation depends on the registers and the operand alone, so a read of the operand before it does not matter. -/
theorem alu8_regs_congr {s t : State} (h : t.regs = s.regs) (x : AluOp) (v : Byte) :
    (t.alu8 x v).regs = (s.alu8 x v).regs := by
  have hr := aluResult_congr h x v
  have hf : t.f = s.f := congrArg Regs.f h
  by_cases hx : x = .cp
  · subst hx
    rw [State.alu8, State.alu8, applyFlags_regs, applyFlags_regs, hr, h, hf]
  · rw [alu8_regs t x v hx, alu8_regs s x v hx, hr, h, hf]

/-- The operation on a register or (HL): the read of the operand and no other cycle. -/
theorem completes_alu8 {s : State} {x : AluOp} {r : R8} {g : Regs} (hs : s.NoReset)
    (h : (s.alu8 x (s.operand r)).regs = g) : Completes (Instr.alu8 x r) s g (s.operandRead r) := by
  refine ⟨_, exec_alu8 x r s, ?_, ?_⟩
  · rw [State.aluR8, readR8_fst, alu8_regs_congr (readR8_regs s r), h]
  · have hemits := (emits_readR8 hs r).trans (emits_alu8 _ x (s.readR8 r).1)
    rwa [List.append_nil] at hemits

theorem completes_alu8Imm {s : State} {x : AluOp} {v : Byte} {g : Regs} (h : (s.alu8 x v).regs = g) :
    Completes (Instr.alu8Imm x v) s g [] := ⟨_, exec_alu8Imm x v s, h, emits_alu8 s x v⟩

/-! ### What each operation leaves in A and F -/

/-- A changeset in which all four flags are present makes F anew. -/
theorem accept_allFlags_regs (s : State) (w : Byte) (z n h c : Bool) :
    (s.accept (w, { z := some z, n := some n, h := some h, c := some c })).regs =
      { s.regs with a := w, f := flagByte z n h c } := by
  rw [accept_regs, applyTo_flags]
  rfl

/-- ADD (no carry in) and ADC. -/
theorem accept_adc_regs (s : State) (v : Byte) (ci : Bool) :
    (s.accept (Alu.adc s.a v ci)).regs =
      { s.regs with
        a := BitVec.ofNat 8 (s.a.toNat + v.toNat + ci.toNat)
        f := flagByte (decide ((s.a.toNat + v.toNat + ci.toNat) % 256 = 0)) false
          (decide (15 < s.a.toNat % 16 + v.toNat % 16 + ci.toNat))
          (decide (255 < s.a.toNat + v.toNat + ci.toNat)) } := by
  rw [Alu.adc_eq]
  exact accept_allFlags_regs s _ _ _ _ _

/-- The byte that SUB (no borrow in) and SBC leave in A. -/
def State.difference (s : State) (v : Byte) (bi : Bool) : Byte :=
  BitVec.ofNat 8 (s.a.toNat + 256 - (v.toNat + bi.toNat))

/-- The byte that SUB, SBC and CP leave in F. -/
def State.differenceFlags (s : State) (v : Byte) (bi : Bool) : Byte :=
  flagByte (decide (s.difference v bi = 0#8)) true (decide (s.a.toNat % 16 < v.toNat % 16 + bi.toNat))
    (decide (s.a.toNat < v.toNat + bi.toNat))

theorem accept_sbc_regs (s : State) (v : Byte) (bi : Bool) :
    (s.accept (Alu.sbc s.a v bi)).regs =
      { s.regs with a := s.difference v bi, f := s.differenceFlags v bi } := by
  rw [Alu.sbc_eq]
  exact accept_allFlags_regs s _ _ _ _ _

/-- CP has the flags of SUB and leaves A. -/
theorem alu8_cp_regs_eq_differenceFlags (s : State) (v : Byte) :
    (s.alu8 .cp v).regs = { s.regs with f := s.differenceFlags v false } := by
  have hf : (Alu.sub s.a v).2.applyTo s.f &&& 0xF0#8 = s.differenceFlags v false :=
    congrArg Regs.f (accept_sbc_regs s v false)
  rw [alu8_cp_regs, hf]

/-! ### The statements -/

/-- Settles O45: ADD is ADC without a carry in, and `accept_adc_regs` says what ADC leaves. -/
theorem addAndAdcOnTheAccumulator : Obligations.AddAndAdcOnTheAccumulator := by
  unfold Obligations.AddAndAdcOnTheAccumulator
  intro s hs out
  have hadd (v : Byte) : (s.alu8 .add v).regs = out v false := accept_adc_regs s v false
  have hadc (v : Byte) : (s.alu8 .adc v).regs = out v s.flagC := accept_adc_regs s v s.flagC
  exact ⟨fun _ => ⟨completes_alu8 hs (hadd _), completes_alu8 hs (hadc _)⟩,
    fun v => ⟨completes_alu8Imm (hadd v), completes_alu8Imm (hadc v)⟩⟩

/-- Settles O46: SUB is SBC without a borrow in (`accept_sbc_regs`), and CP keeps only its flags. -/
theorem subSbcAndCpOnTheAccumulator : Obligations.SubSbcAndCpOnTheAccumulator := by
  unfold Obligations.SubSbcAndCpOnTheAccumulator
  intro s hs diff flags out compare
  have hsub (v : Byte) : (s.alu8 .sub v).regs = out v false := accept_sbc_regs s v false
  have hsbc (v : Byte) : (s.alu8 .sbc v).regs = out v s.flagC := accept_sbc_regs s v s.flagC
  have hcp (v : Byte) : (s.alu8 .cp v).regs = compare v := alu8_cp_regs_eq_differenceFlags s v
  exact ⟨fun _ => ⟨completes_alu8 hs (hsub _), completes_alu8 hs (hsbc _), completes_alu8 hs (hcp _)⟩,
    fun v => ⟨completes_alu8Imm (hsub v), completes_alu8Imm (hsbc v), completes_alu8Imm (hcp v)⟩⟩

/-- Settles O47: the changesets of the three operations have all four flags (`accept_allFlags_regs`). -/
theorem logicOnTheAccumulator : Obligations.LogicOnTheAccumulator := by
  unfold Obligations.LogicOnTheAccumulator
  intro s hs out
  have hand (v : Byte) : (s.alu8 .and v).regs = out (s.a &&& v) true := accept_allFlags_regs s _ _ _ _ _
  have hxor (v : Byte) : (s.alu8 .xor v).regs = out (s.a ^^^ v) false := accept_allFlags_regs s _ _ _ _ _
  have hor (v : Byte) : (s.alu8 .or v).regs = out (s.a ||| v) false := accept_allFlags_regs s _ _ _ _ _
  exact ⟨fun _ => ⟨completes_alu8 hs (hand _), completes_alu8 hs (hxor _), completes_alu8 hs (hor _)⟩,
    fun v => ⟨completes_alu8Imm (hand v), completes_alu8Imm (hxor v), completes_alu8Imm (hor v)⟩⟩

end Sys2Proof.Machine
end

section
/-! PROOFS. The loads of A at an address (R321, R323, R332 to R335), and the calls, the returns and the stack (R320,
R325 to R328, R340 to R342, R351). -/

namespace Sys2Proof.Machine

/-! ### Loads of A at an address -/

/-- `0xFF00 | v` is the word with the high byte 0xFF (R185, R186). -/
theorem highPage_eq_or (v : Byte) : highPage v = 0xFF00#16 ||| v.setWidth 16 := rfl

theorem completes_storeA {i : Instr} {s : State} {addr : Word} (hs : s.NoReset)
    (he : exec i s = .next (s.memWrite addr s.a)) : Completes i s s.regs [.write addr s.a] :=
  ⟨_, he, memWrite_regs s addr s.a, emits_memWrite hs addr s.a⟩

theorem completes_loadA {i : Instr} {s : State} {addr : Word} (hs : s.NoReset)
    (he : exec i s = .next (s.loadA addr)) :
    Completes i s { s.regs with a := s.readByte addr } [.read addr (s.readByte addr)] :=
  ⟨_, he, loadA_regs s addr, emits_loadA hs addr⟩

/-- Settles O43: each meaning is one write of A or one load of it, at an address that `highPage_eq_or` gives. -/
theorem addressLoadsMoveA : Obligations.AddressLoadsMoveA := by
  unfold Obligations.AddressLoadsMoveA
  intro s a8 a16 hs page load store
  have hpage (v : Byte) : page v = highPage v := (highPage_eq_or v).symm
  rw [hpage, hpage]
  exact ⟨completes_storeA hs (exec_ldhAtA8A a8 s), completes_storeA hs (exec_ldAtCA s),
    completes_storeA hs (exec_ldAtA16A a16 s), completes_loadA hs (exec_ldhAAtA8 a8 s),
    completes_loadA hs (exec_ldAAtC s), completes_loadA hs (exec_ldAAtA16 a16 s)⟩

/-! ### What the environment spares, cycle by cycle -/

theorem State.EnvSpares.mono {s : State} {m n : Nat} {addr : Word} (h : s.EnvSpares n addr) (hmn : m ≤ n) :
    s.EnvSpares m addr := fun c hc => h c (List.take_subset_take_left s.env hmn hc)

/-- What is spared in `n` cycles more is spared in the `n` cycles that come after those spent. -/
theorem Emits.spares {s t : State} {cs : List BusCycle} {n : Nat} {addr : Word} (h : Emits s t cs)
    (hs : s.EnvSpares (cs.length + n) addr) : t.EnvSpares n addr := fun c hc =>
  hs c (by rw [List.take_add]; exact List.mem_append_right _ (h.env ▸ hc))

theorem State.Flat.spares {s : State} (h : s.Flat) (n : Nat) (addr : Word) : s.EnvSpares n addr := by
  simp [State.EnvSpares, h.2]

/-! ### A word pushed after one idle cycle -/

/-- The cycles of `Tick(); Push16(v)`. -/
def State.pushCycles (s : State) (v : Word) : List BusCycle :=
  [.idle, .write (s.sp - 1) (hiByte v), .write (s.sp - 2) (loByte v)]

theorem idle_push16_regs (s : State) (v : Word) : (s.idle.push16 v).regs = { s.regs with sp := s.sp - 2 } := by
  rw [push16_regs, idle_regs, idle_sp]

theorem emits_idle_push16 {s : State} (hs : s.NoReset) (v : Word) : Emits s (s.idle.push16 v) (s.pushCycles v) := by
  have hidle := emits_idle hs
  have hpush := emits_push16 (hidle.noReset hs) v
  rw [idle_sp] at hpush
  exact hidle.trans hpush

theorem call_regs (s : State) (a : Word) : (s.call a).regs = { s.regs with pc := a, sp := s.sp - 2 } :=
  congrArg (fun g : Regs => { g with pc := a }) (idle_push16_regs s s.pc)

theorem emits_call {s : State} (hs : s.NoReset) (a : Word) : Emits s (s.call a) (s.pushCycles s.pc) :=
  (emits_idle_push16 hs s.pc).trans (emits_setPc _ a)

theorem completes_call {i : Instr} {s : State} {a : Word} (hs : s.NoReset) (he : exec i s = .next (s.call a)) :
    Completes i s { s.regs with pc := a, sp := s.sp - 2 } (s.pushCycles s.pc) :=
  ⟨_, he, call_regs s a, emits_call hs a⟩

/-- RST n is a call of 8 * n (R351). -/
theorem exec_rst_eq_call {n : Nat} (h : n < 8) (s : State) :
    exec (Instr.rst n) s = .next (s.call (BitVec.ofNat 16 (8 * n))) := by
  rw [exec_rst n h, Nat.mul_comm]
  rfl

theorem exec_callCc_of_cond {s : State} {q : Cond} (h : s.cond q = true) (a : Word) :
    exec (Instr.callCc q a) s = .next (s.call a) := by
  rw [exec_callCc, State.callIf, if_pos h]

theorem exec_callCc_of_not_cond {s : State} {q : Cond} (h : s.cond q = false) (a : Word) :
    exec (Instr.callCc q a) s = .next s := by
  rw [exec_callCc, State.callIf, h]
  rfl

/-- Settles O54: CALL, RST and a CALL cc whose condition holds are `State.call`. -/
theorem callsAndRestartsPushPc : Obligations.CallsAndRestartsPushPc := by
  unfold Obligations.CallsAndRestartsPushPc
  intro s hs calls
  exact ⟨fun a => completes_call hs (exec_callA16 a s), fun _ hn => completes_call hs (exec_rst_eq_call hn s),
    fun _ a => ⟨fun hq => completes_call hs (exec_callCc_of_cond hq a),
      fun hq => completes_unchanged (exec_callCc_of_not_cond hq a)⟩⟩

/-! ### A word popped -/

theorem loByte_pop16 (s : State) : loByte s.pop16.1 = s.readByte s.sp := by rw [pop16_fst, loByte_pair]

theorem hiByte_pop16 {s : State} (h : s.EnvSpares 1 (s.sp + 1)) : hiByte s.pop16.1 = s.readByte (s.sp + 1) := by
  rw [pop16_fst, hiByte_pair, cycle_readByte h]

/-- The cycles of `Pop16()` when it answers `w`. -/
def State.popCycles (s : State) (w : Word) : List BusCycle := [.read s.sp (loByte w), .read (s.sp + 1) (hiByte w)]

theorem ret_regs (s : State) : s.ret.regs = { s.regs with pc := s.pop16.1, sp := s.sp + 2 } :=
  (idle_regs _).trans (congrArg (fun g : Regs => { g with pc := s.pop16.1 }) (pop16_regs s))

theorem emits_ret {s : State} (hs : s.NoReset) : Emits s s.ret (s.popCycles s.pop16.1 ++ [.idle]) :=
  ((emits_pop16 hs).trans (emits_setPc _ s.pop16.1)).idle_after hs

theorem reti_regs (s : State) :
    s.reti.regs = { s.regs with pc := s.pop16.1, sp := s.sp + 2, ime := true, eiPending := false } :=
  (idle_regs _).trans
    (congrArg (fun g : Regs => { g with pc := s.pop16.1, ime := true, eiPending := false }) (pop16_regs s))

theorem emits_setIme (s : State) (v : Bool) : Emits s (s.setIme v) [] := .none rfl rfl rfl rfl

theorem emits_setEiPending (s : State) (v : Bool) : Emits s (s.setEiPending v) [] := .none rfl rfl rfl rfl

theorem emits_reti {s : State} (hs : s.NoReset) : Emits s s.reti (s.popCycles s.pop16.1 ++ [.idle]) :=
  ((((emits_pop16 hs).trans (emits_setPc _ s.pop16.1)).trans (emits_setIme _ true)).trans
    (emits_setEiPending _ false)).idle_after hs

theorem exec_retCc_of_cond {s : State} {q : Cond} (h : s.cond q = true) :
    exec (Instr.retCc q) s = .next s.idle.ret := by
  rw [exec_retCc, State.retIf, if_pos h]

theorem exec_retCc_of_not_cond {s : State} {q : Cond} (h : s.cond q = false) :
    exec (Instr.retCc q) s = .next s.idle := by
  rw [exec_retCc, State.retIf, h]
  rfl

/-- A RET cc whose condition holds is RET one cycle later (R320). -/
theorem completes_retCc_of_cond {s : State} {q : Cond} (hs : s.NoReset) (h : s.cond q = true) :
    Completes (Instr.retCc q) s { s.regs with pc := s.idle.pop16.1, sp := s.sp + 2 }
      (.idle :: s.popCycles s.idle.pop16.1 ++ [.idle]) := by
  have hidle := emits_idle hs
  have hret := emits_ret (hidle.noReset hs)
  rw [State.popCycles, idle_sp] at hret
  exact ⟨_, exec_retCc_of_cond h, by rw [ret_regs, idle_regs, idle_sp], hidle.trans hret⟩

theorem loByte_idle_pop16 {s : State} (h : s.EnvSpares 1 s.sp) : loByte s.idle.pop16.1 = s.readByte s.sp := by
  rw [loByte_pop16, idle_sp, State.idle, cycle_readByte h]

theorem hiByte_idle_pop16 {s : State} (hs : s.NoReset) (h : s.EnvSpares 2 (s.sp + 1)) :
    hiByte s.idle.pop16.1 = s.readByte (s.sp + 1) := by
  have hspared : s.idle.EnvSpares 1 (s.idle.sp + 1) := by
    rw [idle_sp]
    exact (emits_idle hs).spares h
  rw [hiByte_pop16 hspared, idle_sp, State.idle, cycle_readByte (h.mono (by decide))]

/-- Settles O55: the word is the one that `Pop16` answers, for RET cc after the idle cycle that comes first. -/
theorem returnsPopPc : Obligations.ReturnsPopPc := by
  unfold Obligations.ReturnsPopPc
  intro s hs cycles
  refine ⟨⟨s.pop16.1, loByte_pop16 s, hiByte_pop16, ?_, ?_⟩, fun q hq => ?_, fun q hq => ?_⟩
  · exact ⟨_, exec_ret s, ret_regs s, emits_ret hs⟩
  · exact ⟨_, exec_reti s, reti_regs s, emits_reti hs⟩
  · exact ⟨_, exec_retCc_of_not_cond hq, idle_regs s, emits_idle hs⟩
  · exact ⟨s.idle.pop16.1, loByte_idle_pop16, hiByte_idle_pop16 hs, completes_retCc_of_cond hs hq⟩

/-! ### PUSH and POP -/

theorem Regs.withRp2_withSp (g : Regs) (p : Rp2) (hi lo : Byte) (v : Word) :
    ({ g with sp := v } : Regs).withRp2 p hi lo = { g.withRp2 p hi lo with sp := v } := by cases p <;> rfl

theorem popPair_regs (s : State) (p : Rp2) :
    (s.popPair p).regs = { s.regs.withRp2 p (hiByte s.pop16.1) (loByte s.pop16.1) with sp := s.sp + 2 } := by
  rw [State.popPair, setRp2_regs, pop16_regs, Regs.withRp2_withSp]

theorem emits_popPair {s : State} (hs : s.NoReset) (p : Rp2) : Emits s (s.popPair p) (s.popCycles s.pop16.1) :=
  (emits_pop16 hs).trans (emits_setRp2 _ p _)

/-- Settles O56: `Push16` after an idle cycle, and `Pop16` into the pair's two halves. -/
theorem pushAndPopMoveAPair : Obligations.PushAndPopMoveAPair := by
  unfold Obligations.PushAndPopMoveAPair
  intro p s hs
  refine ⟨?_, hiByte s.pop16.1, loByte s.pop16.1, loByte_pop16 s, hiByte_pop16, ?_⟩
  · rw [← getRp2_regs]
    exact ⟨_, exec_push p s, idle_push16_regs s _, emits_idle_push16 hs _⟩
  · exact ⟨_, exec_pop p s, popPair_regs s p, emits_popPair hs p⟩

/-! ### What was pushed is popped -/

/-- After the cycles of a push the two bytes from the new SP on are the word's, wherever SP points (R25, R220). -/
theorem pop16_fst_of_pushCycles {s t : State} {v : Word} (hs : s.Flat) (h : Emits s t (s.pushCycles v))
    (hsp : t.sp = s.sp - 2) : t.pop16.1 = v := by
  have hnext : t.sp + 1 = s.sp - 1 := by rw [hsp]; bv_omega
  have hhi : t.readByte (t.sp + 1) = hiByte v := by
    rw [hnext, h.mem _ (hs.spares _ _)]
    simp [State.pushCycles, storedBy]
  have hlo : t.readByte t.sp = loByte v := by
    rw [hsp, h.mem _ (hs.spares _ _)]
    simp [State.pushCycles, storedBy]
  have ht : t.Flat := h.flat hs
  rw [pop16_fst_spared ht.noReset (ht.spares _ _), hhi, hlo, pair_halves]

/-- Settles O57: RET pops the PC that CALL pushed (`pop16_fst_of_pushCycles`), and SP is back where it was. -/
theorem retUndoesCall : Obligations.RetUndoesCall := by
  unfold Obligations.RetUndoesCall
  intro s a hs
  have hregs := call_regs s a
  have hsp : (s.call a).sp = s.sp - 2 := congrArg Regs.sp hregs
  have hpop := pop16_fst_of_pushCycles hs (emits_call hs.noReset a) hsp
  refine ⟨s.call a, (s.call a).ret, exec_callA16 a s, congrArg Regs.pc hregs, exec_ret _, ?_⟩
  rw [ret_regs, hpop, hsp, BitVec.sub_add_cancel, hregs]
  rfl

end Sys2Proof.Machine
end

section
/-! PROOFS. The CB-prefixed instructions: rotates, shifts and SWAP, and BIT, RES and SET (R380 to R391). -/

namespace Sys2Proof.Machine

namespace Alu

/-! ### The shifts and the bit mask as the library's operations -/

/-- SLA is RL with a clear carry in. -/
theorem sla_fst (a : Byte) : (sla a).1 = a <<< 1 := (rl_fst a false).trans BitVec.or_zero

/-- SRL is RR with a clear carry in. -/
theorem srl_fst (a : Byte) : (srl a).1 = a >>> 1 := (rr_fst a false).trans BitVec.or_zero

theorem sra_fst (a : Byte) : (sra a).1 = a.sshiftRight 1 := by
  refine BitVec.eq_of_getLsbD_eq fun i hi => ?_
  rw [sra_getLsbD a hi, BitVec.getLsbD_sshiftRight, BitVec.msb_eq_getLsbD_last, decide_eq_false (Nat.not_le_of_lt hi)]
  by_cases h7 : i = 7
  · subst h7
    rfl
  · have hlt : 1 + i < 8 := by omega
    rw [if_pos hlt, if_neg h7, Nat.add_comm]
    rfl

theorem swap_fst (a : Byte) : (swap a).1 = a.rotateLeft 4 := by
  refine BitVec.eq_of_getLsbD_eq fun i hi => ?_
  refine (getLsbD_swapped a hi).trans ?_
  rw [BitVec.getLsbD_rotateLeft, Bool.cond_decide]
  split
  case isTrue h4 => rw [Nat.mod_eq_of_lt (by omega), Nat.add_comm]
  case isFalse h4 => rw [decide_eq_true hi, Bool.true_and, show (i + 4) % 8 = i - 4 by omega]

theorem bitMask_eq_ofNat (n : Nat) : 1#8 <<< n = BitVec.ofNat 8 (2 ^ n) := by
  rw [← BitVec.twoPow_eq]
  exact BitVec.eq_of_toNat_eq (by rw [BitVec.toNat_twoPow, BitVec.toNat_ofNat])

end Alu

/-! ### A read and a write of one operand -/

theorem readR8_writeR8_regs (s : State) (r : R8) (w : Byte) :
    ((s.readR8 r).2.writeR8 r w).regs = s.regs.withR8 r w := by rw [writeR8_regs, readR8_regs]

/-- The write goes to the HL that the read had. -/
theorem emits_readR8_writeR8 {s : State} (hs : s.NoReset) (r : R8) (w : Byte) :
    Emits s ((s.readR8 r).2.writeR8 r w) (s.operandRead r ++ s.operandWrite r w) := by
  have hread := emits_readR8 hs r
  rw [← operandWrite_congr (hl_of_regs (readR8_regs s r))]
  exact hread.trans (emits_writeR8 (hread.noReset hs) r w)

/-! ### Rotates and shifts -/

/-- The changeset of a rotate or shift has all four flags, so what F held before it does not matter. -/
theorem completes_rot {s : State} {op : RotOp} {r : R8} {w : Byte} {c : Bool} (hs : s.NoReset)
    (h : s.rotResult op (s.operand r) = Alu.shifted w c) :
    Completes (Instr.rot op r) s { s.regs.withR8 r w with f := flagByte (decide (w = 0#8)) false false c }
      (s.operandRead r ++ s.operandWrite r w) := by
  have hemits := (emits_readR8_writeR8 hs r w).trans (emits_applyFlags _ (Alu.shifted w c).2)
  rw [List.append_nil] at hemits
  refine ⟨((s.readR8 r).2.writeR8 r w).applyFlags (Alu.shifted w c).2, ?_, ?_, hemits⟩
  · rw [exec_rot, State.rotOp, readR8_fst, h]
    rfl
  · rw [applyFlags_regs, readR8_writeR8_regs, applyTo_flags]
    rfl

/-- Settles O51: one read and one write of the operand (`completes_rot`), with each result as the library's operation. -/
theorem prefixedRotatesAndShifts : Obligations.PrefixedRotatesAndShifts := by
  unfold Obligations.PrefixedRotatesAndShifts
  intro op r s hs v cin w c
  refine completes_rot hs ?_
  cases op with
  | rlc => exact congrArg (Alu.shifted · _) (Alu.rlc_fst v)
  | rrc => exact congrArg (Alu.shifted · _) (Alu.rrc_fst v)
  | rl => exact congrArg (Alu.shifted · _) (Alu.rl_fst v s.flagC)
  | rr => exact congrArg (Alu.shifted · _) (Alu.rr_fst v s.flagC)
  | sla => exact congrArg (Alu.shifted · _) (Alu.sla_fst v)
  | sra => exact congrArg (Alu.shifted · _) (Alu.sra_fst v)
  | swap => exact congrArg (Alu.shifted · _) (Alu.swap_fst v)
  | srl => exact congrArg (Alu.shifted · _) (Alu.srl_fst v)

/-! ### Single bits -/

/-- The read leaves F, so C is what it was before the instruction. -/
theorem completes_bit {n : Nat} (hn : n < 8) {s : State} (hs : s.NoReset) (r : R8) :
    Completes (Instr.bit n r) s { s.regs with f := flagByte (!(s.operand r).getLsbD n) false true s.flagC }
      (s.operandRead r) := by
  have hread := readR8_regs s r
  have hf : (s.readR8 r).2.f = s.f := congrArg Regs.f hread
  have hemits := (emits_readR8 hs r).trans (emits_applyFlags _ (Alu.test n (s.operand r)))
  rw [List.append_nil] at hemits
  refine ⟨_, by rw [exec_bit n r hn, State.bitOp, readR8_fst], ?_, hemits⟩
  rw [applyFlags_regs, hread, hf, applyTo_flags]
  rfl

/-- RES and SET: the operand is read and a byte written back to it, with no flag (R390, R391). -/
theorem completes_replaceR8 {i : Instr} {s : State} {r : R8} {w : Byte} (hs : s.NoReset)
    (he : exec i s = .next ((s.readR8 r).2.writeR8 r w)) :
    Completes i s (s.regs.withR8 r w) (s.operandRead r ++ s.operandWrite r w) :=
  ⟨_, he, readR8_writeR8_regs s r w, emits_readR8_writeR8 hs r w⟩

/-- Settles O52: BIT is a read and its flags, RES and SET a read and a write; `1 << n` is the byte `2 ^ n`. -/
theorem bitResAndSet : Obligations.BitResAndSet := by
  unfold Obligations.BitResAndSet
  intro n r s hn hs v bit
  refine ⟨completes_bit hn hs r, completes_replaceR8 hs ?_, completes_replaceR8 hs ?_⟩
  · rw [exec_res n r hn, State.resOp, readR8_fst, Alu.res, Alu.bitMask_eq_ofNat]
  · rw [exec_set n r hn, State.setOp, readR8_fst, Alu.set, Alu.bitMask_eq_ofNat]

end Sys2Proof.Machine
end

section
/-! PROOFS. The interrupt lines: `pending`, `active_interrupts`, `highest`, and the interrupt check (R402 to R405, R215). -/

namespace Sys2Proof.Machine

/-! ### The lines and their bits -/

/-- The bit of IE and IF that belongs to a line, as a number (R402). -/
def lineIndex : Interrupt → Nat
  | .vblank => 0
  | .lcdStat => 1
  | .timer => 2
  | .serial => 3
  | .joypad => 4

theorem lineBit_eq_twoPow (n : Interrupt) : lineBit n = BitVec.twoPow 8 (lineIndex n) := by cases n <;> rfl

theorem mem_interruptOrder (n : Interrupt) : n ∈ interruptOrder := by cases n <;> decide

/-- The priority order is the order of the bits (R404). -/
theorem lineIndex_getElem_interruptOrder :
    ∀ (j : Nat) (h : j < interruptOrder.length), lineIndex interruptOrder[j] = j := by decide

theorem getElem?_lineIndex_interruptOrder (n : Interrupt) : interruptOrder[lineIndex n]? = some n := by
  cases n <;> rfl

theorem and_lineBit_ne_zero_iff (p : Byte) (n : Interrupt) :
    p &&& lineBit n ≠ 0#8 ↔ p.getLsbD (lineIndex n) = true := by
  have hbit : BitVec.twoPow 8 (lineIndex n) ≠ 0#8 := by cases n <;> decide
  rw [lineBit_eq_twoPow, BitVec.and_twoPow]
  cases p.getLsbD (lineIndex n) <;> simp [hbit]

theorem decide_and_lineBit (p : Byte) (n : Interrupt) :
    decide (p &&& lineBit n ≠ 0#8) = p.getLsbD (lineIndex n) :=
  Bool.eq_iff_iff.mpr (decide_eq_true_iff.trans (and_lineBit_ne_zero_iff p n))

/-! ### The arbiter -/

theorem pending_getLsbD (s : State) (i : Nat) :
    s.pending.getLsbD i =
      ((s.readByte Config.ieAddr).getLsbD i && (s.readByte Config.ifAddr).getLsbD i && decide (i < 5)) := by
  have hmask : (0x1F#8).getLsbD i = decide (i < 5) := by
    have hnat : (31 : Nat) = 2 ^ 5 - 1 := rfl
    rw [BitVec.getLsbD_ofNat, hnat, Nat.testBit_two_pow_sub_one, ← Bool.decide_and]
    exact decide_eq_decide.mpr (by omega)
  rw [State.pending, BitVec.getLsbD_and, BitVec.getLsbD_and, hmask]
  rfl

/-- Only the five lines can be pending. -/
theorem pending_eq_zero_iff (s : State) : s.pending = 0#8 ↔ ∀ n, s.pending &&& lineBit n = 0#8 := by
  refine ⟨fun h n => by rw [h, BitVec.zero_and], fun h => BitVec.eq_of_getLsbD_eq fun i _ => ?_⟩
  rw [BitVec.getLsbD_zero]
  by_cases hi : i < interruptOrder.length
  · have hline := mt (and_lineBit_ne_zero_iff s.pending interruptOrder[i]).mpr (not_not_intro (h _))
    rwa [lineIndex_getElem_interruptOrder i hi, Bool.not_eq_true] at hline
  · rw [pending_getLsbD, decide_eq_false (show ¬i < 5 from hi), Bool.and_false]

theorem mem_activeInterrupts_iff (s : State) (n : Interrupt) :
    n ∈ s.activeInterrupts ↔ s.pending.getLsbD (lineIndex n) = true := by
  rw [State.activeInterrupts, List.mem_filter, decide_and_lineBit]
  exact and_iff_right (mem_interruptOrder n)

theorem highest_eq_none_iff (s : State) : s.highest = none ↔ s.pending = 0#8 := by
  rw [State.highest, List.head?_eq_none_iff, State.activeInterrupts, List.filter_eq_nil_iff, pending_eq_zero_iff]
  simp [mem_interruptOrder]

/-- The first pending line in the priority order is the one with the lowest bit (R404). -/
theorem highest_eq_some_iff (s : State) (n : Interrupt) :
    s.highest = some n ↔
      s.pending.getLsbD (lineIndex n) = true ∧ ∀ j, j < lineIndex n → s.pending.getLsbD j = false := by
  obtain ⟨hlt, hn⟩ := List.getElem?_eq_some_iff.mp (getElem?_lineIndex_interruptOrder n)
  rw [State.highest, State.activeInterrupts, List.head?_filter, List.find?_eq_some_iff_getElem]
  simp only [decide_and_lineBit, lineIndex_getElem_interruptOrder, Bool.not_eq_true']
  refine and_congr_right fun _ => ⟨?_, fun h => ⟨lineIndex n, hlt, hn, h⟩⟩
  rintro ⟨i, hi, rfl, h⟩
  rwa [lineIndex_getElem_interruptOrder]

/-- Settles O30: a line is pending if its bit is (`and_lineBit_ne_zero_iff`), and the order of the lines is that of their
bits. -/
theorem highestIsTheLowestPendingBit : Obligations.HighestIsTheLowestPendingBit := by
  unfold Obligations.HighestIsTheLowestPendingBit
  intro s bit
  have hbit (n : Interrupt) : bit n = lineIndex n := by cases n <;> rfl
  simp only [hbit]
  refine ⟨pending_getLsbD s, highest_eq_some_iff s, highest_eq_none_iff s, mem_activeInterrupts_iff s,
    fun hie hif => ?_⟩
  have hp : s.pending = 0xFF#8 &&& 0x14#8 &&& 0x1F#8 := by rw [← hie, ← hif]; rfl
  rw [State.activeInterrupts, hp]
  decide

/-! ### The interrupt check -/

theorem interruptCheck_of_highest {s : State} {n : Interrupt} (hi : s.ime = true) (hn : s.highest = some n) :
    s.interruptCheck = s.dispatch n := by
  rw [State.interruptCheck, hi, hn]

theorem interruptCheck_of_pending_eq_zero {s : State} (hp : s.pending = 0#8) : s.interruptCheck = s.commitEi := by
  rw [State.interruptCheck, (highest_eq_none_iff s).mpr hp]
  cases s.ime <;> rfl

theorem commitEi_eq (s : State) : s.commitEi = { s with ime := s.ime || s.eiPending, eiPending := false } := by
  unfold State.commitEi
  split
  case isTrue he => rw [he, Bool.or_true]; rfl
  case isFalse he =>
    obtain he := Bool.eq_false_of_not_eq_true he
    rw [he, Bool.or_false, ← he]

/-- Settles O31: something is pending exactly if there is a highest line. -/
theorem interruptCheckDispatchesOrCommitsEi : Obligations.InterruptCheckDispatchesOrCommitsEi := by
  unfold Obligations.InterruptCheckDispatchesOrCommitsEi
  refine fun s => ⟨fun hi hp => ?_, fun h => ?_⟩
  · obtain ⟨n, hn⟩ := Option.ne_none_iff_exists'.mp (mt (highest_eq_none_iff s).mp hp)
    exact ⟨n, hn, interruptCheck_of_highest hi hn⟩
  · rw [← commitEi_eq]
    exact h.elim interruptCheck_of_ime_false interruptCheck_of_pending_eq_zero

end Sys2Proof.Machine
end

section
/-! PROOFS. The dispatch of an interrupt (R406, R407). -/

namespace Sys2Proof.Machine

theorem serviceAddress_ne_ifAddr (n : Interrupt) : serviceAddress n ≠ Config.ifAddr := by cases n <;> decide

theorem acknowledge_noReset {s : State} (hs : s.NoReset) (n : Interrupt) :
    s.acknowledge n = s.putByte Config.ifAddr (s.readByte Config.ifAddr &&& ~~~(lineBit n)) := by
  rw [State.acknowledge, State.sideWrite, hs.1]
  rfl

/-- The acknowledge clears the line's bit of IF and changes no other byte (R407). -/
theorem acknowledge_readByte {s : State} (hs : s.NoReset) (n : Interrupt) (addr : Word) :
    (s.acknowledge n).readByte addr =
      if addr = Config.ifAddr then s.readByte addr &&& ~~~(lineBit n) else s.readByte addr := by
  rw [acknowledge_noReset hs, State.putByte_readByte]
  split
  case isTrue h => rw [h]
  case isFalse => rfl

/-- `Dispatch(n)` up to its two stack writes: `PC <- PC - 1; Tick(); Tick(); Push16(PC)` (R406). -/
def State.saveReturn (s : State) : State :=
  (s.setPc (s.pc - 1)).idle.idle.push16 (s.pc - 1)

/-- The cycles of `State.saveReturn`. -/
def State.saveReturnCycles (s : State) : List BusCycle := .idle :: s.pushCycles (s.pc - 1)

/-- What `Dispatch(n)` does before it fetches the handler's first opcode. -/
def State.enterHandler (s : State) (n : Interrupt) : State :=
  (((s.saveReturn.setIme false).setEiPending false).acknowledge n).setPc (serviceAddress n)

theorem dispatch_eq (s : State) (n : Interrupt) : s.dispatch n = (s.enterHandler n).fetchOpcode := by
  have hpc : (s.setPc (s.pc - 1)).idle.idle.pc = s.pc - 1 := by rw [idle_pc, idle_pc, setPc_pc]
  rw [State.dispatch, hpc]
  rfl

theorem saveReturn_regs (s : State) : s.saveReturn.regs = { s.regs with pc := s.pc - 1, sp := s.sp - 2 } := by
  rw [State.saveReturn, idle_push16_regs, idle_regs, idle_sp]
  rfl

theorem emits_saveReturn {s : State} (hs : s.NoReset) : Emits s s.saveReturn s.saveReturnCycles := by
  have hidle := (emits_setPc s (s.pc - 1)).idle_after hs
  have hpush := emits_idle_push16 (hidle.noReset hs) (s.pc - 1)
  rw [State.pushCycles, idle_sp] at hpush
  exact hidle.trans hpush

theorem enterHandler_regs (s : State) (n : Interrupt) :
    (s.enterHandler n).regs =
      { s.regs with sp := s.sp - 2, pc := serviceAddress n, ime := false, eiPending := false } := by
  have hack := sideWrite_regs ((s.saveReturn.setIme false).setEiPending false) Config.ifAddr
  refine (congrArg (fun g : Regs => { g with pc := serviceAddress n }) (hack _)).trans ?_
  exact congrArg (fun g : Regs => { g with pc := serviceAddress n, ime := false, eiPending := false })
    (saveReturn_regs s)

theorem dispatch_regs (s : State) (n : Interrupt) :
    (s.dispatch n).regs =
      { s.regs with
        sp := s.sp - 2
        ime := false
        eiPending := false
        pc := serviceAddress n + 1
        ir := (s.enterHandler n).readByte (serviceAddress n) } := by
  have hpc : (s.enterHandler n).pc = serviceAddress n := rfl
  rw [dispatch_eq, fetchOpcode_regs, hpc, enterHandler_regs]

theorem enterHandler_noReset {s : State} (hs : s.NoReset) (n : Interrupt) : (s.enterHandler n).NoReset :=
  noReset_closed.setPc _ _ (noReset_closed.acknowledge n ((emits_saveReturn hs).noReset hs))

theorem enterHandler_trace {s : State} (hs : s.NoReset) (n : Interrupt) :
    (s.enterHandler n).trace = s.saveReturnCycles.reverse ++ s.trace := by
  have hsave := emits_saveReturn hs
  rw [State.enterHandler, setPc_trace, acknowledge_noReset (by exact hsave.noReset hs), State.putByte, setMem_trace,
    setEiPending_trace, setIme_trace, hsave.trace]

theorem enterHandler_env {s : State} (hs : s.NoReset) (n : Interrupt) : (s.enterHandler n).env = s.env.drop 4 := by
  have hsave := emits_saveReturn hs
  rw [State.enterHandler, setPc_env, acknowledge_noReset (by exact hsave.noReset hs), State.putByte, setMem_env,
    setEiPending_env, setIme_env, hsave.env]
  rfl

/-- Memory when the handler's first opcode is fetched, where the environment spared it. -/
theorem enterHandler_readByte {s : State} (hs : s.NoReset) (n : Interrupt) {addr : Word} (h : s.EnvSpares 4 addr) :
    (s.enterHandler n).readByte addr =
      if addr = Config.ifAddr then storedBy addr s.saveReturnCycles (s.readByte addr) &&& ~~~(lineBit n)
      else storedBy addr s.saveReturnCycles (s.readByte addr) := by
  have hsave := emits_saveReturn hs
  rw [← hsave.mem addr h]
  exact acknowledge_readByte (s := (s.saveReturn.setIme false).setEiPending false) (hsave.noReset hs) n addr

/-- Where the environment spares it in the four cycles before, the opcode fetched is the byte that the two stack writes left
at the service address. -/
theorem dispatch_ir {s : State} (hs : s.NoReset) (n : Interrupt) (h : s.EnvSpares 4 (serviceAddress n)) :
    (s.dispatch n).ir = storedBy (serviceAddress n) s.saveReturnCycles (s.readByte (serviceAddress n)) := by
  have hir := congrArg Regs.ir (dispatch_regs s n)
  exact hir.trans ((enterHandler_readByte hs n h).trans (if_neg (serviceAddress_ne_ifAddr n)))

theorem emits_fetch_of_dispatch {s : State} (hs : s.NoReset) (n : Interrupt) :
    Emits (s.enterHandler n) (s.dispatch n) [.read (serviceAddress n) (s.dispatch n).ir] := by
  rw [dispatch_eq]
  exact emits_fetchOpcode (enterHandler_noReset hs n)

theorem dispatch_readByte {s : State} (hs : s.NoReset) (n : Interrupt) {addr : Word} (h : s.EnvSpares 5 addr) :
    (s.dispatch n).readByte addr =
      if addr = Config.ifAddr then storedBy addr s.saveReturnCycles (s.readByte addr) &&& ~~~(lineBit n)
      else storedBy addr s.saveReturnCycles (s.readByte addr) := by
  have hlater : (s.enterHandler n).EnvSpares 1 addr := fun c hc => h c (by
    rw [enterHandler_env hs] at hc
    rw [show 5 = 4 + 1 from rfl, List.take_add]
    exact List.mem_append_right _ hc)
  exact ((emits_fetch_of_dispatch hs n).mem addr hlater).trans (enterHandler_readByte hs n (h.mono (by decide)))

/-- Settles O32: two idle cycles and a push (`State.saveReturn`), the acknowledge, and the fetch at the service address. -/
theorem dispatchSavesPcAndEntersTheHandler : Obligations.DispatchSavesPcAndEntersTheHandler := by
  unfold Obligations.DispatchSavesPcAndEntersTheHandler
  intro s n hs ret vector mask t spent
  have hvector : vector = serviceAddress n := by cases n <;> rfl
  have hmask : mask = ~~~(lineBit n) := by cases n <;> rfl
  have hfetch := emits_fetch_of_dispatch hs n
  have hregs := dispatch_regs s n
  have hir : t.ir = (s.enterHandler n).readByte (serviceAddress n) := congrArg Regs.ir hregs
  have hspent : spent = s.saveReturnCycles ++ [.read vector t.ir] := rfl
  have hstored (addr : Word) (v : Byte) : storedBy addr spent v = storedBy addr s.saveReturnCycles v := by
    rw [hspent, storedBy_append]
    rfl
  simp only [hstored, hmask]
  rw [hspent, hvector]
  refine ⟨by rw [hir]; exact hregs, fun h => dispatch_ir hs n h, ?_, ?_, ?_, fun addr h => dispatch_readByte hs n h⟩
  · rw [hfetch.trace, enterHandler_trace hs, List.reverse_append, List.append_assoc]
  · rw [hfetch.env, enterHandler_env hs, List.drop_drop]
    rfl
  · exact (hfetch.noReset (enterHandler_noReset hs n)).1

end Sys2Proof.Machine
end

section
/-! PROOFS. CORE's control state: what an instruction leaves of it, how a step leaves Running, and how IME rises (R33, R242,
R293, R401, R412). -/

namespace Sys2Proof.Machine

/-! ### What an instruction leaves of the control state -/

/-- The registers that control the sequencer and the interrupts, as opposed to data, SP and PC (R20). -/
structure Control where
  ir : Byte
  ime : Bool
  eiPending : Bool
  run : RunState

def Regs.control (g : Regs) : Control where
  ir := g.ir
  ime := g.ime
  eiPending := g.eiPending
  run := g.run

def State.control (s : State) : Control := s.regs.control

/-- The plain primitives leave the control state. -/
theorem control_closed (c : Control) : Closed (fun s => s.control = c) where
  setA _ _ h := h
  setF _ _ h := h
  setB _ _ h := h
  setC _ _ h := h
  setD _ _ h := h
  setE _ _ h := h
  setH _ _ h := h
  setL _ _ h := h
  setSp _ _ h := h
  setPc _ _ h := h
  idle s h := (congrArg Regs.control (idle_regs s)).trans h
  memRead s _ h := (congrArg Regs.control (cycle_regs s _)).trans h
  memWrite s a v h := (congrArg Regs.control (memWrite_regs s a v)).trans h

/-- An instruction touches the control state only if it is one of these seven rows, or its meaning keeps all of it. -/
theorem exec_control (i : Instr) :
    i ∈ [.di, .ei, .reti, .halt, .stop, .prefixCb] ∨ (∃ op, i = .illegal op) ∨
      ∀ s t, exec i s = .next t → t.control = s.control := by
  obtain hi | hi | hc := exec_closed i
  · exact .inl hi
  · exact .inr (.inl hi)
  · refine .inr (.inr fun s t h => ?_)
    obtain ⟨u, hu, hctl⟩ := hc _ (control_closed s.control) s rfl
    cases hu.symm.trans h
    exact hctl

theorem exec_ime_eiPending {i : Instr} {s t : State} (h : exec i s = .next t) (hi : i ∉ [.di, .ei, .reti, .halt]) :
    t.ime = s.ime ∧ t.eiPending = s.eiPending := by
  obtain hm | ⟨op, rfl⟩ | hc := exec_control i
  · simp only [List.mem_cons, List.not_mem_nil, or_false, not_or] at hm hi
    obtain ⟨hdi, hei, hreti, hhalt⟩ := hi
    obtain rfl | rfl | rfl | rfl | rfl | rfl := hm
    · exact absurd rfl hdi
    · exact absurd rfl hei
    · exact absurd rfl hreti
    · exact absurd rfl hhalt
    · cases h
      exact ⟨rfl, rfl⟩
    · cases h
      have hregs := selectPrefixed_regs s
      exact ⟨congrArg Regs.ime hregs, congrArg Regs.eiPending hregs⟩
  · cases h
    exact ⟨rfl, rfl⟩
  · exact ⟨congrArg Control.ime (hc s t h), congrArg Control.eiPending (hc s t h)⟩

theorem exec_run_ir {i : Instr} {s t : State} (h : exec i s = .next t) (hi : i ∉ [.halt, .stop, .prefixCb])
    (hillegal : ∀ op, i ≠ .illegal op) : t.run = s.run ∧ t.ir = s.ir := by
  obtain hm | ⟨op, rfl⟩ | hc := exec_control i
  · simp only [List.mem_cons, List.not_mem_nil, or_false, not_or] at hm hi
    obtain ⟨hhalt, hstop, hprefix⟩ := hi
    obtain rfl | rfl | rfl | rfl | rfl | rfl := hm
    · cases h
      exact ⟨rfl, rfl⟩
    · cases h
      exact ⟨rfl, rfl⟩
    · cases h
      have hregs := reti_regs s
      exact ⟨congrArg Regs.run hregs, congrArg Regs.ir hregs⟩
    · exact absurd rfl hhalt
    · exact absurd rfl hstop
    · exact absurd rfl hprefix
  · exact absurd rfl (hillegal op)
  · exact ⟨congrArg Control.run (hc s t h), congrArg Control.ir (hc s t h)⟩

/-- An instruction whose fetch the step adds leaves the run state. -/
theorem exec_run {i : Instr} {s t : State} (h : exec i s = .next t) (ho : i.ownFetch = false) : t.run = s.run := by
  by_cases hp : i = .prefixCb
  · subst hp
    cases h
    exact congrArg Regs.run (selectPrefixed_regs s)
  · have hne {j : Instr} (hj : j.ownFetch = true) : i ≠ j := fun hij => by simp [hij, hj] at ho
    exact (exec_run_ir h (by simp [hp, hne (j := .halt) rfl, hne (j := .stop) rfl]) fun op => hne rfl).1

/-! ### What a Running step runs -/

/-- `i` can be run by the next Running step: it is the instruction fetched, or a row of the prefixed table (R211, R216). -/
def State.CanRun (s : State) (i : Instr) : Prop := i = s.fetchInstr.1 ∨ ∃ op2, i = decodePrefixed op2

/-- What holds once the immediates are read and is kept by the meanings that the step runs holds before its post-fetch. -/
theorem stepRunning_postFetch {P : State → Prop} {s t : State} (h0 : P s.fetchInstr.2)
    (hexec : ∀ (i : Instr) (u v : State), s.CanRun i → exec i u = .next v → P u → P v) (h : stepRunning s = .next t) :
    ∃ u i, P u ∧ s.CanRun i ∧ t = u.postFetch i := by
  obtain ⟨u, hu⟩ := everyInstructionAnswersANextState s.fetchInstr.1 s.fetchInstr.2
  have hPu := hexec _ _ _ (.inl rfl) hu h0
  simp only [stepRunning, hu] at h
  split at h
  · obtain ⟨v, hv⟩ := everyInstructionAnswersANextState (decodePrefixed u.ir) u
    simp only [hv] at h
    cases h
    exact ⟨v, _, hexec _ _ _ (.inr ⟨u.ir, rfl⟩) hv hPu, .inr ⟨u.ir, rfl⟩, rfl⟩
  · cases h
    exact ⟨u, _, hPu, .inl rfl, rfl⟩

theorem State.CanRun.ownFetch {s : State} {i : Instr} (h : s.CanRun i) (ho : s.fetchInstr.1.ownFetch = false) :
    i.ownFetch = false := by
  obtain rfl | ⟨op2, rfl⟩ := h
  · exact ho
  · exact ownFetch_decodePrefixed op2

/-! ### How a step leaves Running -/

theorem interruptCheck_run (s : State) : s.interruptCheck.run = s.run := by
  unfold State.interruptCheck
  split
  case h_1 n _ _ => exact congrArg Regs.run (dispatch_regs s n)
  case h_2 => exact congrArg Regs.run (commitEi_regs s)

theorem fetchNext_run (s : State) : s.fetchNext.run = s.run :=
  (interruptCheck_run _).trans (congrArg Regs.run (fetchOpcode_regs s))

theorem settle_run {s : State} (h : s.run = .running) : s.settle.run = .running := by
  unfold State.settle
  split
  · rfl
  · exact h

theorem haltWith_run {s : State} (h : s.pending ≠ 0#8) (bug : Bool) : (s.haltWith bug).run = s.run := by
  rw [State.haltWith, if_pos h]
  split
  · rw [interruptCheck_run, setIr_run, memRead_snd, cycle_run]
  · exact fetchNext_run s

theorem stepRunning_run {s t : State} (hr : s.run = .running) (ho : s.fetchInstr.1.ownFetch = false)
    (h : stepRunning s = .next t) : t.run = .running := by
  have hread : s.fetchInstr.2.run = .running := (congrArg Regs.run (fetchInstr_regs s)).trans hr
  obtain ⟨u, i, hu, hi, rfl⟩ := stepRunning_postFetch (P := fun u => u.run = .running) hread
    (fun _ _ _ hi he hrun => (exec_run he (hi.ownFetch ho)).trans hrun) h
  rw [postFetch_of_ownFetch_false (hi.ownFetch ho)]
  exact settle_run ((fetchNext_run u).trans hu)

/-- The step of HALT, STOP or an illegal opcode is its meaning. -/
theorem stepRunning_of_ownFetch {s u : State} {i : Instr} (hs : s.NoReset) (hd : decodeUnprefixed s.ir 0#8 0#8 = i)
    (ho : i.ownFetch = true) (he : exec i s = .next u) : stepRunning s = .next u := by
  have hp : i.selectsPrefixed = false := by
    obtain rfl | rfl | ⟨op, rfl⟩ := Instr.ownFetch_cases ho <;> rfl
  obtain ⟨v, hv, hn⟩ := exec_closedControl noReset_closed i hs
  cases he.symm.trans hv
  rw [stepRunning_of_noOperand (operandCount_of_ownFetch s.ir (by rw [hd, ho])) hd hp he, postFetch_noReset hn,
    if_pos ho]

/-- A Running step stays Running, unless it is that of an illegal opcode, of STOP, or of HALT with nothing pending. -/
theorem stepRunning_run_cases {s t : State} (hs : s.NoReset) (hr : s.run = .running) (h : stepRunning s = .next t) :
    (s.ir ∈ illegalOpcodes ∧ t = s.setRun .locked) ∨ (s.ir = 0x10#8 ∧ t = s.setRun .stopped) ∨
      (s.ir = 0x76#8 ∧ s.pending = 0#8 ∧ t = s.setRun .halted) ∨
      (s.ir ∉ illegalOpcodes ∧ s.ir ≠ 0x10#8 ∧ (s.ir = 0x76#8 → s.pending ≠ 0#8) ∧ t.run = .running) := by
  by_cases hillegal : s.ir ∈ illegalOpcodes
  · have hdecode := decodeUnprefixed_illegal 0#8 0#8 s.ir hillegal
    cases (stepRunning_of_ownFetch hs hdecode rfl (exec_illegal _ s)).symm.trans h
    exact .inl ⟨hillegal, rfl⟩
  by_cases hstop : s.ir = 0x10#8
  · cases (stepRunning_of_ownFetch (i := .stop) hs (by rw [hstop]; rfl) rfl (exec_stop s)).symm.trans h
    exact .inr (.inl ⟨hstop, rfl⟩)
  by_cases hhalt : s.ir = 0x76#8
  · cases (stepRunning_of_ownFetch (i := .halt) hs (by rw [hhalt]; rfl) rfl (exec_halt s)).symm.trans h
    by_cases hp : s.pending = 0#8
    · exact .inr (.inr (.inl ⟨hhalt, hp, haltWith_of_pending_eq_zero hp _⟩))
    · exact .inr (.inr (.inr ⟨hillegal, hstop, fun _ => hp, (haltWith_run hp _).trans hr⟩))
  · have hown : s.fetchInstr.1.ownFetch = false := by
      rw [fetchInstr_fst_ownFetch, ← Bool.not_eq_true]
      intro ho
      obtain hi | hi | hi := opcode_of_ownFetch s.ir ho
      · exact hstop hi
      · exact hhalt hi
      · exact hillegal hi
    exact .inr (.inr (.inr ⟨hillegal, hstop, fun hi => absurd hi hhalt, stepRunning_run hr hown h⟩))

/-- Settles O26: in each case of `stepRunning_run_cases` the run state says which opcode it was. -/
theorem runningIsLeftOnlyByHaltStopAndIllegal : Obligations.RunningIsLeftOnlyByHaltStopAndIllegal := by
  unfold Obligations.RunningIsLeftOnlyByHaltStopAndIllegal
  intro s t hs hr h
  rw [step_running hs.1 hr] at h
  change (t.run = .locked ↔ s.ir ∈ illegalOpcodes) ∧ _
  obtain ⟨hi, rfl⟩ | ⟨hi, rfl⟩ | ⟨hi, hp, rfl⟩ | ⟨hillegal, hstop, hhalt, hrun⟩ := stepRunning_run_cases hs hr h
  · have hstop : s.ir ≠ 0x10#8 := fun h10 => absurd (h10 ▸ hi) (by decide)
    have hhalt : s.ir ≠ 0x76#8 := fun h76 => absurd (h76 ▸ hi) (by decide)
    simp [hi, hstop, hhalt, State.setRun]
  · simp [hi, illegalOpcodes, State.setRun]
  · simp [hi, hp, illegalOpcodes]
  · simpa [hillegal, hstop, hrun] using hhalt

/-! ### How IME rises -/

/-- IME is 0, and no EI is waiting to set it. -/
def State.InterruptsOff (s : State) : Prop := s.ime = false ∧ s.eiPending = false

theorem State.InterruptsOff.of_regs {s t : State} {g : Regs} (h : s.InterruptsOff) (ht : t.regs = g)
    (hi : g.ime = s.ime) (he : g.eiPending = s.eiPending) : t.InterruptsOff :=
  ⟨(congrArg Regs.ime ht).trans (hi.trans h.1), (congrArg Regs.eiPending ht).trans (he.trans h.2)⟩

theorem fetchNext_interruptsOff {s : State} (h : s.InterruptsOff) : s.fetchNext.InterruptsOff := by
  have hregs := fetchNext_regs_of_ime_false h.1
  exact ⟨(congrArg Regs.ime hregs).trans h.2, congrArg Regs.eiPending hregs⟩

theorem haltWith_interruptsOff {s : State} (h : s.InterruptsOff) (bug : Bool) : (s.haltWith bug).InterruptsOff := by
  by_cases hp : s.pending = 0#8
  · rw [haltWith_of_pending_eq_zero hp]
    exact h
  · have hregs := haltWith_regs_of_ime_false hp h.1 bug
    exact ⟨(congrArg Regs.ime hregs).trans h.2, congrArg Regs.eiPending hregs⟩

theorem stepHalted_interruptsOff {s : State} (h : s.InterruptsOff) : s.stepHalted.InterruptsOff := by
  unfold State.stepHalted
  split
  · exact fetchNext_interruptsOff (s := s.setRun .running) h
  · exact h.of_regs (idle_regs s) rfl rfl

theorem settle_interruptsOff {s : State} (h : s.InterruptsOff) : s.settle.InterruptsOff := by
  unfold State.settle
  split
  · exact ⟨rfl, rfl⟩
  · exact h

/-- No instruction but EI and RETI turns interrupts on (R412). -/
theorem exec_interruptsOff {i : Instr} {s t : State} (h : exec i s = .next t) (hei : i ≠ .ei) (hreti : i ≠ .reti)
    (hs : s.InterruptsOff) : t.InterruptsOff := by
  by_cases hdi : i = .di
  · subst hdi
    cases h
    exact ⟨rfl, rfl⟩
  by_cases hhalt : i = .halt
  · subst hhalt
    cases h
    exact haltWith_interruptsOff hs _
  · obtain ⟨hime, hpending⟩ := exec_ime_eiPending h (by simp [hdi, hei, hreti, hhalt])
    exact ⟨hime.trans hs.1, hpending.trans hs.2⟩

/-- The opcode in IR is the first byte of the encoding of the instruction fetched. -/
theorem head?_encode_fetchInstr (s : State) : (encode s.fetchInstr.1).head? = some s.ir := by
  obtain hn | ⟨hn, -⟩ | ⟨hn, -⟩ := operandCount_cases s.ir
  · rw [fetchInstr_of_noOperand hn]
    by_cases hstop : s.ir = 0x10#8
    · rw [hstop]
      rfl
    · rw [encode_decodeUnprefixed_plain _ hstop hn]
      rfl
  · rw [fetchInstr_of_byteImm hn, encode_decodeUnprefixed_byteImm _ hn]
    rfl
  · rw [fetchInstr_of_wordImm hn, encode_decodeUnprefixed_wordImm _ _ hn]
    rfl

/-- Another opcode than that of `i` is not fetched as `i`. -/
theorem fetchInstr_fst_ne {s : State} {i : Instr} {op : Byte} (hi : (encode i).head? = some op) (hop : s.ir ≠ op) :
    s.fetchInstr.1 ≠ i := fun hfetch => by
  have hhead := head?_encode_fetchInstr s
  rw [hfetch, hi] at hhead
  exact hop (Option.some.inj hhead).symm

theorem decodePrefixed_ne_ei_reti : ∀ op2 : Byte, decodePrefixed op2 ≠ .ei ∧ decodePrefixed op2 ≠ .reti := by decide

theorem State.CanRun.ne_ei_reti {s : State} {i : Instr} (h : s.CanRun i) (hei : s.ir ≠ 0xFB#8)
    (hreti : s.ir ≠ 0xD9#8) : i ≠ .ei ∧ i ≠ .reti := by
  obtain rfl | ⟨op2, rfl⟩ := h
  · exact ⟨fetchInstr_fst_ne rfl hei, fetchInstr_fst_ne rfl hreti⟩
  · exact decodePrefixed_ne_ei_reti op2

theorem postFetch_interruptsOff {s : State} (h : s.InterruptsOff) (i : Instr) : (s.postFetch i).InterruptsOff := by
  unfold State.postFetch
  split
  · exact settle_interruptsOff h
  · exact settle_interruptsOff (fetchNext_interruptsOff h)

/-- A Running step with interrupts off leaves them off, unless it is that of EI or RETI. -/
theorem stepRunning_interruptsOff {s t : State} (hs : s.InterruptsOff) (hei : s.ir ≠ 0xFB#8) (hreti : s.ir ≠ 0xD9#8)
    (h : stepRunning s = .next t) : t.InterruptsOff := by
  have hread : s.fetchInstr.2.InterruptsOff := hs.of_regs (fetchInstr_regs s) rfl rfl
  obtain ⟨u, i, hu, -, rfl⟩ := stepRunning_postFetch hread (fun i _ _ hi he hoff => by
    obtain ⟨hne, hne'⟩ := hi.ne_ei_reti hei hreti
    exact exec_interruptsOff he hne hne' hoff) h
  exact postFetch_interruptsOff hu i

theorem stuck_interruptsOff {s t : State} {why : Fault} (h : s.stuck why = .next t) : t.InterruptsOff := by
  unfold State.stuck at h
  split at h
  · cases h
    obtain ⟨u, rfl, -⟩ := resetInScript_spends rfl ‹_›
    exact ⟨rfl, rfl⟩
  · cases h

/-- A step with interrupts off leaves them off, unless it is a Running step of EI or RETI. -/
theorem step_interruptsOff {s t : State} (hs : s.InterruptsOff)
    (hi : s.run = .running → s.ir ≠ 0xFB#8 ∧ s.ir ≠ 0xD9#8) (h : step s = .next t) : t.InterruptsOff := by
  unfold step at h
  split at h
  case isTrue =>
    cases h
    exact ⟨rfl, rfl⟩
  case isFalse =>
    split at h
    case h_1 hr =>
      obtain ⟨hei, hreti⟩ := hi hr
      exact stepRunning_interruptsOff hs hei hreti h
    case h_2 =>
      cases h
      exact settle_interruptsOff (stepHalted_interruptsOff hs)
    case h_3 => exact stuck_interruptsOff h
    case h_4 => exact stuck_interruptsOff h

/-- Settles O27: no other step turns interrupts on (`step_interruptsOff`), and the meanings touch the control state only as
`exec_control` says. -/
theorem imeRisesOnlyByEiAndReti : Obligations.ImeRisesOnlyByEiAndReti := by
  unfold Obligations.ImeRisesOnlyByEiAndReti
  refine ⟨fun s t hime hei h ht => ?_, fun i s t h hi => exec_ime_eiPending h hi,
    fun i s t h hi hillegal => exec_run_ir h hi hillegal⟩
  by_contra hne
  have hoff : t.InterruptsOff :=
    step_interruptsOff ⟨hime, hei⟩ (fun hr => not_or.mp fun hir => hne ⟨hr, hir⟩) h
  exact Bool.false_ne_true (hoff.1.symm.trans ht)

end Sys2Proof.Machine
end

section
/-! PROOFS. A handler that is one RETI (R409, R406, R328). -/

namespace Sys2Proof.Machine

/-- Where IE holds the same byte and IF has lost the bit of `n`, the line pending alone, nothing is pending (R403, R407). -/
theorem pending_eq_zero_of_acknowledged {s t : State} {n : Interrupt}
    (hie : t.readByte Config.ieAddr = s.readByte Config.ieAddr)
    (hif : t.readByte Config.ifAddr = s.readByte Config.ifAddr &&& ~~~(lineBit n))
    (halone : ∀ m, m ≠ n → s.pending &&& lineBit m = 0#8) : t.pending = 0#8 := by
  have hp : t.pending = s.pending &&& ~~~(lineBit n) := by
    rw [State.pending, State.pending, sideRead_eq, sideRead_eq, hie, hif]
    ac_rfl
  refine (pending_eq_zero_iff t).mpr fun m => ?_
  rw [hp, BitVec.and_assoc, BitVec.and_comm (~~~_), ← BitVec.and_assoc]
  by_cases hm : m = n
  · rw [hm, BitVec.and_assoc, BitVec.and_not_self]
    exact BitVec.and_zero
  · rw [halone m hm, BitVec.zero_and]

/-- The writes of the dispatch change the two stack bytes alone. -/
theorem storedBy_saveReturnCycles {s : State} {addr : Word} (h1 : addr ≠ s.sp - 1) (h2 : addr ≠ s.sp - 2) (v : Byte) :
    storedBy addr s.saveReturnCycles v = v :=
  (if_neg h2).trans (if_neg h1)

/-- Memory after the dispatch, away from the two stack bytes: IF has lost the line's bit (R407). -/
theorem dispatch_readByte_of_ne {s : State} (hs : s.Flat) (n : Interrupt) {addr : Word} (h1 : addr ≠ s.sp - 1)
    (h2 : addr ≠ s.sp - 2) :
    (s.dispatch n).readByte addr =
      if addr = Config.ifAddr then s.readByte addr &&& ~~~(lineBit n) else s.readByte addr := by
  rw [dispatch_readByte hs.noReset n (hs.spares _ _), storedBy_saveReturnCycles h1 h2]

/-- The word on the stack after the dispatch is the address of the overridden opcode, if neither byte is IF. -/
theorem pop16_fst_dispatch {s : State} (hs : s.Flat) (n : Interrupt) (h1 : s.sp - 1 ≠ Config.ifAddr)
    (h2 : s.sp - 2 ≠ Config.ifAddr) : (s.dispatch n).pop16.1 = s.pc - 1 := by
  have hsp : (s.dispatch n).sp = s.sp - 2 := congrArg Regs.sp (dispatch_regs s n)
  have hnext : (s.dispatch n).sp + 1 = s.sp - 1 := by rw [hsp]; bv_omega
  have ht : (s.dispatch n).Flat := flat_closed.dispatch n hs
  have hmem {addr : Word} (h : addr ≠ Config.ifAddr) :=
    (dispatch_readByte hs.noReset n (hs.spares 5 addr)).trans (if_neg h)
  rw [pop16_fst_spared ht.noReset (ht.spares _ _), hnext, hsp, hmem h1, hmem h2]
  simp [State.saveReturnCycles, State.pushCycles, storedBy]

theorem pending_congr {s t : State} (h : ∀ addr, t.readByte addr = s.readByte addr) : t.pending = s.pending := by
  rw [State.pending, State.pending, sideRead_eq, sideRead_eq, h, h]
  rfl

/-- With nothing pending and no EI waiting `FetchNext()` is the fetch alone, whatever IME holds (R405). -/
theorem fetchNext_eq_fetchOpcode {s : State} (hs : s.Flat) (hp : s.pending = 0#8) (he : s.eiPending = false) :
    s.fetchNext = s.fetchOpcode := by
  have hmem (addr : Word) : s.fetchOpcode.readByte addr = s.readByte addr :=
    (emits_fetchOpcode hs.noReset).mem addr (hs.spares _ _)
  have hei : s.fetchOpcode.eiPending = false := (congrArg Regs.eiPending (fetchOpcode_regs s)).trans he
  rw [State.fetchNext, interruptCheck_of_pending_eq_zero ((pending_congr hmem).trans hp), State.commitEi, hei]
  rfl

/-- RETI over plain memory, with nothing pending: the return, the fetch of the opcode returned to, and no byte changed. -/
theorem step_reti {s : State} (hs : s.Flat) (hr : s.run = .running) (hi : s.ir = 0xD9#8) (hp : s.pending = 0#8) :
    ∃ t, step s = .next t ∧
      t.regs = { s.regs with ir := s.readByte s.pop16.1, pc := s.pop16.1 + 1, sp := s.sp + 2, ime := true,
                             eiPending := false } ∧
      ∀ addr, t.readByte addr = s.readByte addr := by
  have hreti := emits_reti hs.noReset
  have hflat : s.reti.Flat := hreti.flat hs
  have hmem (addr : Word) : s.reti.readByte addr = s.readByte addr := hreti.mem addr (hs.spares _ _)
  have hpc : s.reti.pc = s.pop16.1 := congrArg Regs.pc (reti_regs s)
  have hei : s.reti.eiPending = false := congrArg Regs.eiPending (reti_regs s)
  have hnext := fetchNext_eq_fetchOpcode hflat ((pending_congr hmem).trans hp) hei
  refine ⟨s.reti.fetchOpcode, ?_, ?_, fun addr => ?_⟩
  · rw [step_running hs.1 hr, stepRunning_of_noOperand (i := .reti) (by rw [hi]; rfl) (by rw [hi]; rfl) rfl
      (exec_reti s), postFetch_noReset hflat.noReset, if_neg (by decide), hnext]
  · rw [fetchOpcode_regs, hmem, hpc, reti_regs]
  · exact ((emits_fetchOpcode hflat.noReset).mem addr (hflat.spares _ _)).trans (hmem addr)

/-- Settles O36: the dispatch leaves RETI in IR, the return address on the stack (`pop16_fst_dispatch`) and nothing pending; RETI
takes the address back. -/
theorem retiResumesTheInterruptedProgram : Obligations.RetiResumesTheInterruptedProgram := by
  unfold Obligations.RetiResumesTheInterruptedProgram
  intro s n hs hr hime hei hn hvec hstack halone
  obtain ⟨⟨h1ie, h1if, h1vec⟩, h2ie, h2if, h2vec⟩ :
      (s.sp - 1 ≠ Config.ieAddr ∧ s.sp - 1 ≠ Config.ifAddr ∧ s.sp - 1 ≠ serviceAddress n) ∧
        s.sp - 2 ≠ Config.ieAddr ∧ s.sp - 2 ≠ Config.ifAddr ∧ s.sp - 2 ≠ serviceAddress n :=
    ⟨hstack _ (by simp), hstack _ (by simp)⟩
  have hregs := dispatch_regs s n
  have hmem {addr : Word} := @dispatch_readByte_of_ne s hs n addr
  have hrun : (s.dispatch n).run = .running := (congrArg Regs.run hregs).trans hr
  have hir : (s.dispatch n).ir = 0xD9#8 := by
    rw [dispatch_ir hs.noReset n (hs.spares _ _), storedBy_saveReturnCycles h1vec.symm h2vec.symm, hvec]
  have hpop := pop16_fst_dispatch hs n h1if h2if
  have hpending : (s.dispatch n).pending = 0#8 :=
    pending_eq_zero_of_acknowledged ((hmem h1ie.symm h2ie.symm).trans (if_neg (by decide)))
      ((hmem h1if.symm h2if.symm).trans (if_pos rfl)) halone
  obtain ⟨t, hstep, htregs, htmem⟩ := step_reti (flat_closed.dispatch n hs) hrun hir hpending
  rw [interruptCheck_of_highest hime hn]
  refine ⟨t, hstep, ?_, fun addr h1 h2 => (htmem addr).trans (hmem h1 h2)⟩
  have hsp : (s.dispatch n).sp = s.sp - 2 := congrArg Regs.sp hregs
  rw [htregs, htmem, hpop, hsp, hregs, BitVec.sub_add_cancel, BitVec.sub_add_cancel, ← hime, ← hei]
  rfl

end Sys2Proof.Machine
end

section
/-! PROOFS. The cycle table against the instructions' meanings, family by family (R460, R461, R380). -/

namespace Sys2Proof

/-! ### The table, read by an instruction's bytes -/

/-- The table's count for the instruction that `bytes` encode, a conditional one by whether it is `taken`. -/
def tableCycles (taken : Bool) : List Byte → Nat
  | [] => 0
  | op :: rest => if op = 0xCB#8 then prefixedCycles (rest.headD 0#8) else opcodeCycles op taken

/-- The cycles in which the bytes after the first are read, before the meaning runs (R213, R216). -/
def operandCycles : List Byte → Nat
  | [] => 0
  | op :: _ => if op = 0xCB#8 then 1 else operandCount op

/-- The condition that the opcode of a conditional instruction names (R92). -/
def conditionOf : List Byte → Cond
  | [] => .nz
  | op :: _ => Cond.ofIndex (opY op % 4)

theorem Instr.selectsPrefixed_eq_false {i : Instr} (h : i ≠ .prefixCb) : i.selectsPrefixed = false := by
  unfold Instr.selectsPrefixed
  split
  · exact absurd rfl h
  · rfl

theorem decodePrefixed_ne_prefixCb : ∀ op2 : Byte, decodePrefixed op2 ≠ .prefixCb := by decide

namespace Machine

/-! ### The meaning of an instruction spends what the table leaves -/

/-- Between the reads of the bytes after the first and the final fetch, the meaning of `i` at `s` spends the cycles that the
table leaves. -/
def FitsTable (i : Instr) (s : State) : Prop :=
  ∃ (t : State) (cs : List BusCycle), exec i s = .next t ∧ Emits s t cs ∧
    operandCycles (encode i) + cs.length + 1 = tableCycles (s.cond (conditionOf (encode i))) (encode i)

/-- A conditional row, whose two cases cost differently. -/
theorem fitsTable_of_cond {i : Instr} {s : State} {q : Cond} {g g' : Regs} {cs cs' : List BusCycle}
    (hq : conditionOf (encode i) = q) (htaken : s.cond q = true → Completes i s g cs)
    (hnot : s.cond q = false → Completes i s g' cs')
    (hlen : operandCycles (encode i) + cs.length + 1 = tableCycles true (encode i))
    (hlen' : operandCycles (encode i) + cs'.length + 1 = tableCycles false (encode i)) : FitsTable i s := by
  unfold FitsTable
  rw [hq]
  cases h : s.cond q with
  | true =>
    obtain ⟨t, ht, -, hemits⟩ := htaken h
    exact ⟨t, cs, ht, hemits, hlen⟩
  | false =>
    obtain ⟨t, ht, -, hemits⟩ := hnot h
    exact ⟨t, cs', ht, hemits, hlen'⟩

/-- Any other row: the table does not ask for a condition. -/
theorem Completes.fitsTable {i : Instr} {s : State} {g : Regs} {cs : List BusCycle} (h : Completes i s g cs)
    (hlen : operandCycles (encode i) + cs.length + 1 = tableCycles true (encode i))
    (hlen' : operandCycles (encode i) + cs.length + 1 = tableCycles false (encode i)) : FitsTable i s :=
  fitsTable_of_cond rfl (fun _ => h) (fun _ => h) hlen hlen'

section
variable {s : State}

theorem fitsTable_alu8Imm (x : AluOp) (v : Byte) : FitsTable (Instr.alu8Imm x v) s := by
  have hop : Completes (Instr.alu8Imm x v) s _ [] := completes_alu8Imm rfl
  cases x <;> exact hop.fitsTable rfl rfl

variable (hs : s.NoReset)
include hs

theorem fitsTable_ld8 {x r : R8} (h : ¬(x = .atHl ∧ r = .atHl)) : FitsTable (Instr.ld8 x r) s := by
  have hload := byteLoadsCopyTheirOperand.1 x r s h hs
  cases x <;> cases r
  case atHl.atHl => exact absurd ⟨rfl, rfl⟩ h
  all_goals exact hload.fitsTable rfl rfl

theorem fitsTable_ld8Imm (r : R8) (v : Byte) : FitsTable (Instr.ld8Imm r v) s := by
  have hload := byteLoadsCopyTheirOperand.2 r v s hs
  cases r <;> exact hload.fitsTable rfl rfl

theorem fitsTable_incDec8 (r : R8) : FitsTable (Instr.inc8 r) s ∧ FitsTable (Instr.dec8 r) s := by
  obtain ⟨hinc, hdec⟩ := incAndDecOfAByte r s hs
  cases r <;> exact ⟨hinc.fitsTable rfl rfl, hdec.fitsTable rfl rfl⟩

theorem fitsTable_arith16 (p : Rp) :
    FitsTable (Instr.addHl p) s ∧ FitsTable (Instr.inc16 p) s ∧ FitsTable (Instr.dec16 p) s := by
  obtain ⟨hpair, -⟩ := sixteenBitArithmetic s hs
  obtain ⟨hadd, hinc, hdec⟩ := hpair p
  cases p <;> exact ⟨hadd.fitsTable rfl rfl, hinc.fitsTable rfl rfl, hdec.fitsTable rfl rfl⟩

theorem fitsTable_ld16Imm (p : Rp) (v : Word) : FitsTable (Instr.ld16Imm p v) s := by
  obtain ⟨hload, -⟩ := wordLoads s hs
  cases p <;> exact (hload _ v).fitsTable rfl rfl

theorem fitsTable_ind (m : Ind) : FitsTable (Instr.storeInd m) s ∧ FitsTable (Instr.loadInd m) s := by
  cases m <;> exact ⟨(completes_storeInd hs _).fitsTable rfl rfl, (completes_loadInd hs _).fitsTable rfl rfl⟩

theorem fitsTable_alu8 (x : AluOp) (r : R8) : FitsTable (Instr.alu8 x r) s := by
  have hop : Completes (Instr.alu8 x r) s _ (s.operandRead r) := completes_alu8 hs rfl
  cases x <;> cases r <;> exact hop.fitsTable rfl rfl

theorem fitsTable_pushPop (p : Rp2) : FitsTable (Instr.push p) s ∧ FitsTable (Instr.pop p) s := by
  obtain ⟨hpush, hi, lo, -, -, hpop⟩ := pushAndPopMoveAPair p s hs
  cases p <;> exact ⟨hpush.fitsTable rfl rfl, hpop.fitsTable rfl rfl⟩

theorem fitsTable_jrCc (q : Cond) (e : Byte) : FitsTable (Instr.jrCc q e) s := by
  have htaken := fun h : s.cond q = true => completes_jump hs (exec_jrCc_of_cond h e)
  have hnot := fun h : s.cond q = false => completes_unchanged (exec_jrCc_of_not_cond h e)
  cases q <;> exact fitsTable_of_cond rfl htaken hnot rfl rfl

theorem fitsTable_jpCc (q : Cond) (a : Word) : FitsTable (Instr.jpCc q a) s := by
  have htaken := fun h : s.cond q = true => completes_jump hs (exec_jpCc_of_cond h a)
  have hnot := fun h : s.cond q = false => completes_unchanged (exec_jpCc_of_not_cond h a)
  cases q <;> exact fitsTable_of_cond rfl htaken hnot rfl rfl

theorem fitsTable_callCc (q : Cond) (a : Word) : FitsTable (Instr.callCc q a) s := by
  have htaken := fun h : s.cond q = true => completes_call hs (exec_callCc_of_cond h a)
  have hnot := fun h : s.cond q = false => completes_unchanged (exec_callCc_of_not_cond h a)
  cases q <;> exact fitsTable_of_cond rfl htaken hnot rfl rfl

theorem fitsTable_retCc (q : Cond) : FitsTable (Instr.retCc q) s := by
  obtain ⟨-, hnot, -⟩ := returnsPopPc s hs
  have htaken := fun h : s.cond q = true => completes_retCc_of_cond hs h
  cases q <;> exact fitsTable_of_cond rfl htaken (hnot _) rfl rfl

theorem fitsTable_rst {n : Nat} (hn : n < 8) : FitsTable (Instr.rst n) s := by
  have hcall := completes_call hs (exec_rst_eq_call hn s)
  interval_cases n <;> exact hcall.fitsTable rfl rfl

theorem fitsTable_rot (x : RotOp) (r : R8) : FitsTable (Instr.rot x r) s := by
  have hrot := prefixedRotatesAndShifts x r s hs
  cases x <;> cases r <;> exact hrot.fitsTable rfl rfl

theorem fitsTable_bits {n : Nat} (hn : n < 8) (r : R8) :
    FitsTable (Instr.bit n r) s ∧ FitsTable (Instr.res n r) s ∧ FitsTable (Instr.set n r) s := by
  obtain ⟨hbit, hres, hset⟩ := bitResAndSet n r s hn hs
  interval_cases n <;> cases r <;>
    exact ⟨hbit.fitsTable rfl rfl, hres.fitsTable rfl rfl, hset.fitsTable rfl rfl⟩

/-- Every instruction whose final fetch the step adds, but for PREFIX CB, which the table does not count by itself. -/
theorem exec_fitsTable {i : Instr} (ho : i.ownFetch = false) (hp : i ≠ .prefixCb) : FitsTable i s := by
  obtain ⟨hrlca, hrrca, hrla, hrra, hdaa, hcpl, hscf, hccf⟩ := accumulatorAndFlagInstructions s
  obtain ⟨hnop, hdi, hei, -⟩ := controlInstructions s hs
  obtain ⟨-, hstoreSp, hldSpHl, hldHlSp⟩ := wordLoads s hs
  obtain ⟨-, haddSp⟩ := sixteenBitArithmetic s hs
  obtain ⟨hjr, hjp, hjpHl, -⟩ := jumpsSetPc s hs
  obtain ⟨hcall, -⟩ := callsAndRestartsPushPc s hs
  obtain ⟨⟨w, -, -, hret, hreti⟩, -⟩ := returnsPopPc s hs
  have hshape := i.shape
  cases hshape with
  | ld8 x r h => exact fitsTable_ld8 hs h
  | ld8Imm r v => exact fitsTable_ld8Imm hs r v
  | inc8 r => exact (fitsTable_incDec8 hs r).1
  | dec8 r => exact (fitsTable_incDec8 hs r).2
  | ld16Imm p v => exact fitsTable_ld16Imm hs p v
  | addHl p => exact (fitsTable_arith16 hs p).1
  | inc16 p =>
    obtain ⟨-, hinc, -⟩ := fitsTable_arith16 hs p
    exact hinc
  | dec16 p =>
    obtain ⟨-, -, hdec⟩ := fitsTable_arith16 hs p
    exact hdec
  | storeInd m => exact (fitsTable_ind hs m).1
  | loadInd m => exact (fitsTable_ind hs m).2
  | alu8 x r => exact fitsTable_alu8 hs x r
  | alu8Imm x v => exact fitsTable_alu8Imm x v
  | push p => exact (fitsTable_pushPop hs p).1
  | pop p => exact (fitsTable_pushPop hs p).2
  | jrCc q e => exact fitsTable_jrCc hs q e
  | jpCc q a => exact fitsTable_jpCc hs q a
  | callCc q a => exact fitsTable_callCc hs q a
  | retCc q => exact fitsTable_retCc hs q
  | rst n h => exact fitsTable_rst hs h
  | rot x r => exact fitsTable_rot hs x r
  | bit n r h => exact (fitsTable_bits hs h r).1
  | res n r h =>
    obtain ⟨-, hres, -⟩ := fitsTable_bits hs h r
    exact hres
  | set n r h =>
    obtain ⟨-, -, hset⟩ := fitsTable_bits hs h r
    exact hset
  | nop => exact hnop.fitsTable rfl rfl
  | rlca => exact hrlca.fitsTable rfl rfl
  | ldAtA16Sp a => exact (hstoreSp a).fitsTable rfl rfl
  | rrca => exact hrrca.fitsTable rfl rfl
  | stop => cases ho
  | rla => exact hrla.fitsTable rfl rfl
  | jrE8 e => exact (hjr e).fitsTable rfl rfl
  | rra => exact hrra.fitsTable rfl rfl
  | daa => exact hdaa.fitsTable rfl rfl
  | cpl => exact hcpl.fitsTable rfl rfl
  | scf => exact hscf.fitsTable rfl rfl
  | ccf => exact hccf.fitsTable rfl rfl
  | halt => cases ho
  | jpA16 a => exact (hjp a).fitsTable rfl rfl
  | ret => exact hret.fitsTable rfl rfl
  | prefixCb => exact absurd rfl hp
  | callA16 a => exact (hcall a).fitsTable rfl rfl
  | illegal op => cases ho
  | reti => exact hreti.fitsTable rfl rfl
  | ldhAtA8A a => exact (completes_storeA hs (exec_ldhAtA8A a s)).fitsTable rfl rfl
  | ldAtCA => exact (completes_storeA hs (exec_ldAtCA s)).fitsTable rfl rfl
  | addSpE8 e => exact (haddSp e).fitsTable rfl rfl
  | jpHl => exact hjpHl.fitsTable rfl rfl
  | ldAtA16A a => exact (completes_storeA hs (exec_ldAtA16A a s)).fitsTable rfl rfl
  | ldhAAtA8 a => exact (completes_loadA hs (exec_ldhAAtA8 a s)).fitsTable rfl rfl
  | ldAAtC => exact (completes_loadA hs (exec_ldAAtC s)).fitsTable rfl rfl
  | di => exact hdi.fitsTable rfl rfl
  | ldHlSpE8 e => exact (hldHlSp e).fitsTable rfl rfl
  | ldSpHl => exact hldSpHl.fitsTable rfl rfl
  | ldAAtA16 a => exact (completes_loadA hs (exec_ldAAtA16 a s)).fitsTable rfl rfl
  | ei => exact hei.fitsTable rfl rfl

end

/-! ### The cycles of a Running step -/

/-- From `s` to `t` the trace gained `n` entries. -/
def TraceGrows (s t : State) (n : Nat) : Prop := ∃ spent : List BusCycle, t.trace = spent ++ s.trace ∧ spent.length = n

theorem Emits.traceGrows {s t : State} {cs : List BusCycle} (h : Emits s t cs) : TraceGrows s t cs.length :=
  ⟨cs.reverse, h.trace, List.length_reverse⟩

theorem TraceGrows.trans {s t u : State} {m n : Nat} (h : TraceGrows s t m) (h' : TraceGrows t u n) :
    TraceGrows s u (m + n) := by
  obtain ⟨cs, hcs, rfl⟩ := h
  obtain ⟨ds, hds, rfl⟩ := h'
  exact ⟨ds ++ cs, by rw [hds, hcs, List.append_assoc], by rw [List.length_append, Nat.add_comm]⟩

theorem traceGrows_fetchInstr {s : State} (hs : s.NoReset) : TraceGrows s s.fetchInstr.2 (operandCount s.ir) := by
  have h1 := emits_imm8 hs
  obtain hn | ⟨hn, -⟩ | ⟨hn, -⟩ := operandCount_cases s.ir
  · rw [fetchInstr_of_noOperand hn, hn]
    exact ⟨[], rfl, rfl⟩
  · rw [fetchInstr_of_byteImm hn, hn]
    exact h1.traceGrows
  · rw [fetchInstr_of_wordImm hn, hn]
    exact (h1.trans (emits_imm8 (h1.noReset hs))).traceGrows

theorem traceGrows_dispatch {s : State} (hs : s.NoReset) (n : Interrupt) :
    TraceGrows s (s.dispatch n) dispatchCycles := by
  obtain ⟨-, -, htrace, -⟩ := dispatchSavesPcAndEntersTheHandler s n hs
  exact ⟨_, htrace, rfl⟩

/-- `FetchNext()` is one cycle, or five more if it dispatches, which takes IME = 1. -/
theorem traceGrows_fetchNext {s : State} (hs : s.NoReset) :
    TraceGrows s s.fetchNext 1 ∨ s.ime = true ∧ TraceGrows s s.fetchNext (1 + dispatchCycles) := by
  have hfetch := emits_fetchOpcode hs
  unfold State.fetchNext State.interruptCheck
  split
  case h_1 n hime _ =>
    exact .inr ⟨(congrArg Regs.ime (fetchOpcode_regs s)).symm.trans hime,
      hfetch.traceGrows.trans (traceGrows_dispatch (hfetch.noReset hs) n)⟩
  case h_2 => exact .inl (hfetch.trans (emits_commitEi _)).traceGrows

/-- RETI aside, no such instruction raises IME: EI only leaves it waiting (R412). -/
theorem exec_ime_eq_false {i : Instr} {s t : State} (h : exec i s = .next t) (ho : i.ownFetch = false)
    (hreti : i ≠ .reti) (hime : s.ime = false) : t.ime = false := by
  by_cases hdi : i = .di
  · subst hdi
    cases h
    rfl
  by_cases hei : i = .ei
  · subst hei
    cases h
    exact hime
  · have hhalt : i ≠ .halt := fun hi => by simp [hi, Instr.ownFetch] at ho
    exact (exec_ime_eiPending h (by simp [hdi, hei, hreti, hhalt])).1.trans hime

theorem cond_eq_of_f_eq {s t : State} (h : t.f = s.f) (q : Cond) : t.cond q = s.cond q := by
  cases q <;> simp [State.cond, State.flagZ, State.flagC, h]

/-- From `u` on, the step of `s` has only `FetchNext()` left, and the table's count but for the fetch has been spent. -/
structure BeforeFetch (s u : State) : Prop where
  noReset : u.NoReset
  cycles : ∃ k, TraceGrows s u k ∧ k + 1 = s.stepCycles
  ime : s.ime = false → s.ir ≠ 0xD9#8 → u.ime = false

theorem postFetch_eq_fetchNext {s : State} {i : Instr} (hs : s.NoReset) (ho : i.ownFetch = false) :
    s.postFetch i = s.fetchNext := by
  rw [postFetch_of_ownFetch_false ho, settle_noReset (noReset_closed.fetchNext hs)]

theorem stepRunning_prefixed {s : State} (hs : s.NoReset) (hop : s.ir = 0xCB#8) :
    ∃ u, BeforeFetch s u ∧ stepRunning s = .next u.fetchNext := by
  have hread := emits_selectPrefixed hs
  have ho := ownFetch_decodePrefixed (s.readByte s.pc)
  obtain ⟨u, cs, hu, hemits, hlen⟩ := exec_fitsTable (hread.noReset hs) ho (decodePrefixed_ne_prefixCb _)
  have hn : u.NoReset := hemits.noReset (hread.noReset hs)
  refine ⟨u, ⟨hn, ⟨_, (hread.trans hemits).traceGrows, ?_⟩, fun hime _ => ?_⟩,
    (stepRunning_of_prefix hop hu).trans (congrArg _ (postFetch_eq_fetchNext hn ho))⟩
  · rw [encode_decodePrefixed] at hlen
    rw [State.stepCycles, if_pos hop, List.length_append]
    exact hlen
  · exact exec_ime_eq_false hu ho (decodePrefixed_ne_ei_reti _).2
      ((congrArg Regs.ime (selectPrefixed_regs s)).trans hime)

theorem stepRunning_unprefixed {s : State} (hs : s.NoReset) (hop : s.ir ≠ 0xCB#8) (ho : s.fetchInstr.1.ownFetch = false) :
    ∃ u, BeforeFetch s u ∧ stepRunning s = .next u.fetchNext := by
  have hread : s.fetchInstr.2.NoReset := noReset_closed.fetchInstr hs
  have hregs := fetchInstr_regs s
  have hprefix : s.fetchInstr.1 ≠ .prefixCb := fetchInstr_fst_ne rfl hop
  obtain ⟨rest, hbytes⟩ := List.head?_eq_some_iff.mp (head?_encode_fetchInstr s)
  obtain ⟨u, cs, hu, hemits, hlen⟩ := exec_fitsTable hread ho hprefix
  have hn : u.NoReset := hemits.noReset hread
  refine ⟨u, ⟨hn, ⟨_, (traceGrows_fetchInstr hs).trans hemits.traceGrows, ?_⟩, fun hime hreti => ?_⟩,
    (stepRunning_of_exec (Instr.selectsPrefixed_eq_false hprefix) hu).trans
      (congrArg _ (postFetch_eq_fetchNext hn ho))⟩
  · rw [hbytes, cond_eq_of_f_eq (congrArg Regs.f hregs), operandCycles, if_neg hop, tableCycles, if_neg hop] at hlen
    rw [State.stepCycles, if_neg hop]
    exact hlen
  · exact exec_ime_eq_false hu ho (fetchInstr_fst_ne rfl hreti) ((congrArg Regs.ime hregs).trans hime)

/-- A step to which `FetchNext()` is added (R211), as far as that. -/
theorem stepRunning_fetches {s : State} (hs : s.NoReset) (ho : s.fetchInstr.1.ownFetch = false) :
    ∃ u, BeforeFetch s u ∧ stepRunning s = .next u.fetchNext := by
  by_cases hop : s.ir = 0xCB#8
  · exact stepRunning_prefixed hs hop
  · exact stepRunning_unprefixed hs hop ho

/-! ### Opcodes that the table counts as 0, and the table's bound -/

/-- STOP and the illegal opcodes (R460). -/
theorem opcodeCycles_eq_zero :
    ∀ op : Byte, op = 0x10#8 ∨ op ∈ illegalOpcodes → op ≠ 0xCB#8 ∧ ∀ taken, opcodeCycles op taken = 0 := by decide

theorem stepCycles_eq_zero {s : State} (h : s.ir = 0x10#8 ∨ s.ir ∈ illegalOpcodes) : s.stepCycles = 0 := by
  obtain ⟨hcb, hzero⟩ := opcodeCycles_eq_zero s.ir h
  rw [State.stepCycles, if_neg hcb, hzero]

theorem opcodeCycles_le_six : ∀ (op : Byte) (taken : Bool), opcodeCycles op taken ≤ 6 := by decide

theorem prefixedCycles_le_six : ∀ op2 : Byte, prefixedCycles op2 ≤ 6 := by decide

theorem stepCycles_le_six (s : State) : s.stepCycles ≤ 6 := by
  unfold State.stepCycles
  split
  · exact prefixedCycles_le_six _
  · exact opcodeCycles_le_six _ _

theorem fetchInstr_ownFetch_eq_false {s : State} (hhalt : s.ir ≠ 0x76#8) (h : ¬(s.ir = 0x10#8 ∨ s.ir ∈ illegalOpcodes)) :
    s.fetchInstr.1.ownFetch = false := by
  obtain ⟨hstop, hillegal⟩ := not_or.mp h
  rw [fetchInstr_fst_ownFetch, ← Bool.not_eq_true]
  intro ho
  obtain hi | hi | hi := opcode_of_ownFetch s.ir ho
  · exact hstop hi
  · exact hhalt hi
  · exact hillegal hi

/-- STOP and the illegal opcodes spend nothing; any other opcode but HALT ends in `FetchNext()`. -/
theorem step_spends_tableCycles {s t : State} (hs : s.NoReset) (hr : s.run = .running) (hi : s.ir ≠ 0x76#8)
    (h : step s = .next t) :
    TraceGrows s t s.stepCycles ∨ ¬(s.ime = false ∧ s.ir ≠ 0xD9#8) ∧ TraceGrows s t (s.stepCycles + dispatchCycles) := by
  rw [step_running hs.1 hr] at h
  obtain ⟨hillegal, rfl⟩ | ⟨hstop, rfl⟩ | ⟨hhalt, -⟩ | ⟨hillegal, hstop, -⟩ := stepRunning_run_cases hs hr h
  · exact .inl ⟨[], rfl, (stepCycles_eq_zero (.inr hillegal)).symm⟩
  · exact .inl ⟨[], rfl, (stepCycles_eq_zero (.inl hstop)).symm⟩
  · exact absurd hhalt hi
  · obtain ⟨u, ⟨hn, ⟨k, hk, hcount⟩, hime⟩, hstep⟩ :=
      stepRunning_fetches hs (fetchInstr_ownFetch_eq_false hi (not_or.mpr ⟨hstop, hillegal⟩))
    cases hstep.symm.trans h
    rw [← hcount]
    obtain hfetch | ⟨hon, hfetch⟩ := traceGrows_fetchNext hn
    · exact .inl (hk.trans hfetch)
    · refine .inr ⟨fun ⟨hoff, hreti⟩ => ?_, Nat.add_assoc k 1 _ ▸ hk.trans hfetch⟩
      exact Bool.false_ne_true ((hime hoff hreti).symm.trans hon)

/-- Settles O29: the reads of the other bytes, the meaning (`exec_fitsTable`) and the final fetch spend the table's count, and only
a dispatch adds to it. -/
theorem aStepSpendsTheCyclesOfTheTable : Obligations.AStepSpendsTheCyclesOfTheTable := by
  unfold Obligations.AStepSpendsTheCyclesOfTheTable
  refine fun s t hs hr hi h => ⟨stepCycles_le_six s, ?_⟩
  obtain ⟨spent, htrace, hlen⟩ | ⟨hon, spent, htrace, hlen⟩ := step_spends_tableCycles hs hr hi h
  · exact ⟨spent, htrace, .inl hlen, fun _ _ => hlen⟩
  · exact ⟨spent, htrace, .inr hlen, fun hoff hreti => absurd ⟨hoff, hreti⟩ hon⟩

end Machine

end Sys2Proof
end

section
/-! PROOFS. The first step after reset, and a reset before or during a step (R41, R450, R451). -/

namespace Sys2Proof.Machine

/-! ### The first step after reset -/

/-- Settles O22: the byte that reset leaves in IR is NOP's, and its step fetches at PC, where no EI waits to be committed. -/
theorem firstStepAfterResetFetchesAddressZero : Obligations.FirstStepAfterResetFetchesAddressZero := by
  unfold Obligations.FirstStepAfterResetFetchesAddressZero
  refine ⟨applyReset_afterReset State.reset, fun s ⟨hpc, hir, hime, hei, hrun, _⟩ hs => ?_⟩
  obtain ⟨t, hstep, hregs, hemits⟩ := step_without_dispatch (i := .nop) hs hrun (by rw [hir]; rfl) (by rw [hir]; rfl)
    rfl rfl (exec_nop s) (.none rfl rfl rfl rfl) hime
  rw [hpc] at hregs hemits
  refine ⟨t, hstep, ?_, hemits⟩
  rw [hregs]
  simp [State.regs, hime, hei]

/-! ### A reset in a cycle that the step spends -/

/-- What a step that spent `spent` and serves a reset asserted in it leaves: one trace entry for each cycle, and the bytes that
their writes left, IF but for an acknowledge. -/
theorem settle_of_spends {f : Byte → Byte} {s u : State} {spent : List EnvCycle} (hf : IsAcknowledge f)
    (h : SomeSpent f s u) (he : s.env = spent ++ u.settle.env) (hreset : ∃ c ∈ spent, EnvAction.reset ∈ c) :
    u.settle.AfterReset ∧ (∀ c ∈ spent.dropLast, EnvAction.reset ∉ c) ∧
      ∃ cycles : List BusCycle, u.settle.trace = cycles.reverse ++ s.trace ∧ cycles.length = spent.length ∧
        ∀ addr, Untouched spent addr →
          u.settle.readByte addr = storedBy addr cycles (s.readByte addr) ∨
            addr = 0xFF0F#16 ∧ ∃ n, u.settle.readByte addr = storedBy addr cycles (s.readByte addr) &&& ~~~(lineBit n) := by
  obtain ⟨spent', cycles, hsp⟩ := h
  have henv : u.settle.env = u.env := by
    unfold State.settle
    split <;> rfl
  obtain rfl : spent = spent' := List.append_cancel_right (he.symm.trans (henv ▸ hsp.env))
  have hline : u.resetLine = true := hsp.line.mpr hreset
  have hsettle : u.settle = u.applyReset := if_pos hline
  rw [hsettle]
  refine ⟨applyReset_afterReset u, hsp.before, cycles, hsp.trace, hsp.length (.inr hline), fun addr ha => ?_⟩
  have hmem := hsp.mem addr ha
  obtain rfl | ⟨n, rfl⟩ := hf
  · exact .inl (hmem.trans (ite_self _))
  · split at hmem
    case isTrue hif => exact .inr ⟨hif, n, hmem⟩
    case isFalse => exact .inl hmem

/-- The same for a stuck core, whose cycles are not in the trace. -/
theorem stuck_spends {s t : State} {why : Fault} (h : s.stuck why = .next t) {spent : List EnvCycle}
    (he : s.env = spent ++ t.env) :
    t.AfterReset ∧ (∀ c ∈ spent.dropLast, EnvAction.reset ∉ c) ∧ t.trace = s.trace ∧
      ∀ addr, Untouched spent addr → t.readByte addr = s.readByte addr := by
  unfold State.stuck at h
  split at h
  case h_1 hscript =>
    cases h
    obtain ⟨u, rfl, -, htrace, spent', henv, hbefore, hmem⟩ := resetInScript_spends rfl hscript
    obtain rfl : spent = spent' := List.append_cancel_right (he.symm.trans henv)
    exact ⟨applyReset_afterReset u, hbefore, htrace, hmem⟩
  case h_2 => cases h

theorem stuck_step_spends {s t : State} (hl : s.resetLine = false) (hs : s.IsStuck) (h : step s = .next t)
    {spent : List EnvCycle} (he : s.env = spent ++ t.env) :
    t.AfterReset ∧ (∀ c ∈ spent.dropLast, EnvAction.reset ∉ c) ∧ t.trace = s.trace ∧
      ∀ addr, Untouched spent addr → t.readByte addr = s.readByte addr := by
  obtain hr | hr := hs
  · exact stuck_spends ((step_stopped hl hr).symm.trans h) he
  · exact stuck_spends ((step_locked hl hr).symm.trans h) he

theorem running_or_halted_of_not_isStuck {s : State} (h : ¬s.IsStuck) : s.run = .running ∨ s.run = .halted := by
  obtain ⟨hstopped, hlocked⟩ := not_or.mp h
  cases hr : s.run with
  | running => exact .inl rfl
  | halted => exact .inr rfl
  | stopped => exact absurd hr hstopped
  | locked => exact absurd hr hlocked

/-! ### A reset in the first cycle -/

/-- No machine cycle was spent from `s` to `t`. -/
def SameBus (s t : State) : Prop :=
  t.resetLine = s.resetLine ∧ t.env = s.env ∧ t.trace = s.trace ∧ t.mem = s.mem

/-- From `s`, whose script begins with the cycle `c`, exactly one machine cycle was spent, and reset has been asserted in
it, so that the machine is frozen. -/
structure CutShort (s : State) (c : EnvCycle) (rest : List EnvCycle) (t : State) : Prop where
  line : t.resetLine = true
  env : t.env = rest
  spent : ∃ k : BusCycle, t.trace = k :: s.trace ∧
    ∀ addr, (∀ x ∈ c, ¬x.touches addr) → t.readByte addr = storedBy addr [k] (s.readByte addr)

theorem CutShort.same {s t u : State} {c : EnvCycle} {rest : List EnvCycle} (h : CutShort s c rest t)
    (hu : SameBus t u) : CutShort s c rest u := by
  obtain ⟨hl, he, ht, hm⟩ := hu
  refine ⟨hl.trans h.line, he.trans h.env, ?_⟩
  rw [ht]
  simp only [State.readByte, hm]
  exact h.spent

theorem cycle_frozen {s : State} (h : s.resetLine = true) (k : BusCycle) : s.cycle k = s := if_pos h

theorem memWrite_frozen {s : State} (h : s.resetLine = true) (a : Word) (v : Byte) : s.memWrite a v = s := if_pos h

theorem sideWrite_frozen {s : State} (h : s.resetLine = true) (a : Word) (v : Byte) : s.sideWrite a v = s := if_pos h

/-- A frozen machine stays as it is. -/
theorem cutShort_closed (s : State) (c : EnvCycle) (rest : List EnvCycle) : ClosedControl (CutShort s c rest) where
  setA _ _ h := h.same ⟨rfl, rfl, rfl, rfl⟩
  setF _ _ h := h.same ⟨rfl, rfl, rfl, rfl⟩
  setB _ _ h := h.same ⟨rfl, rfl, rfl, rfl⟩
  setC _ _ h := h.same ⟨rfl, rfl, rfl, rfl⟩
  setD _ _ h := h.same ⟨rfl, rfl, rfl, rfl⟩
  setE _ _ h := h.same ⟨rfl, rfl, rfl, rfl⟩
  setH _ _ h := h.same ⟨rfl, rfl, rfl, rfl⟩
  setL _ _ h := h.same ⟨rfl, rfl, rfl, rfl⟩
  setSp _ _ h := h.same ⟨rfl, rfl, rfl, rfl⟩
  setPc _ _ h := h.same ⟨rfl, rfl, rfl, rfl⟩
  idle _ h := by rwa [State.idle, cycle_frozen h.line]
  memRead _ _ h := by rwa [memRead_snd, cycle_frozen h.line]
  memWrite _ _ _ h := by rwa [memWrite_frozen h.line]
  setIr _ _ h := h.same ⟨rfl, rfl, rfl, rfl⟩
  setIme _ _ h := h.same ⟨rfl, rfl, rfl, rfl⟩
  setEiPending _ _ h := h.same ⟨rfl, rfl, rfl, rfl⟩
  setRun _ _ h := h.same ⟨rfl, rfl, rfl, rfl⟩
  sideWrite _ _ _ h := by rwa [sideWrite_frozen h.line]

section
variable {s t : State} {c : EnvCycle} {rest : List EnvCycle} (he : s.env = c :: rest) (hc : EnvAction.reset ∈ c)
include he hc

/-- The first cycle cuts the step short: `u` is the state at its end, before the environment acts. -/
theorem tick_cutShort {u : State} {k : BusCycle} (hue : u.env = s.env) (hut : u.trace = k :: s.trace)
    (hum : ∀ addr, u.readByte addr = storedBy addr [k] (s.readByte addr)) : CutShort s c rest u.tick := by
  have htick : u.tick = (u.setEnv rest).acts c := by simp only [State.tick, hue, he]
  rw [htick]
  refine ⟨?_, acts_env _ c, k, (acts_trace _ c).trans hut, fun addr ha => ?_⟩
  · rw [acts_resetLine, decide_eq_true hc, Bool.or_true]
  · rw [acts_readByte ha, setEnv_readByte, hum]

variable (hl : s.resetLine = false)
include hl

theorem cycle_cutShort (ht : SameBus s t) {k : BusCycle} (hk : ∀ addr v, storedBy addr [k] v = v) :
    CutShort s c rest (t.cycle k) := by
  obtain ⟨htl, hte, htt, htm⟩ := ht
  rw [cycle_eq (htl.trans hl)]
  refine tick_cutShort he hc hte (congrArg (k :: ·) htt) fun addr => ?_
  rw [hk, setTrace_readByte, State.readByte, htm]
  rfl

theorem memWrite_cutShort (ht : SameBus s t) (a : Word) (v : Byte) : CutShort s c rest (t.memWrite a v) := by
  obtain ⟨htl, hte, htt, htm⟩ := ht
  rw [State.memWrite, htl.trans hl, if_neg (by decide), cycle_eq (by exact htl.trans hl)]
  refine tick_cutShort he hc hte (congrArg (_ :: ·) htt) fun addr => ?_
  rw [setTrace_readByte, State.putByte_readByte, State.readByte, htm]
  rfl

/-- No primitive spends a second cycle. -/
theorem sameBus_or_cutShort_closed : ClosedLocal fun t => SameBus s t ∨ CutShort s c rest t where
  setA _ _ h := h.imp id ((cutShort_closed s c rest).setA _ _)
  setF _ _ h := h.imp id ((cutShort_closed s c rest).setF _ _)
  setB _ _ h := h.imp id ((cutShort_closed s c rest).setB _ _)
  setC _ _ h := h.imp id ((cutShort_closed s c rest).setC _ _)
  setD _ _ h := h.imp id ((cutShort_closed s c rest).setD _ _)
  setE _ _ h := h.imp id ((cutShort_closed s c rest).setE _ _)
  setH _ _ h := h.imp id ((cutShort_closed s c rest).setH _ _)
  setL _ _ h := h.imp id ((cutShort_closed s c rest).setL _ _)
  setSp _ _ h := h.imp id ((cutShort_closed s c rest).setSp _ _)
  setPc _ _ h := h.imp id ((cutShort_closed s c rest).setPc _ _)
  idle _ h := .inr (h.elim (cycle_cutShort he hc hl · fun _ _ => rfl) ((cutShort_closed s c rest).idle _))
  memRead _ a h := .inr (h.elim (cycle_cutShort he hc hl · fun _ _ => rfl) ((cutShort_closed s c rest).memRead _ a))
  memWrite _ a v h := .inr (h.elim (memWrite_cutShort he hc hl · a v) ((cutShort_closed s c rest).memWrite _ a v))
  setIr _ _ h := h.imp id ((cutShort_closed s c rest).setIr _ _)
  setIme _ _ h := h.imp id ((cutShort_closed s c rest).setIme _ _)
  setEiPending _ _ h := h.imp id ((cutShort_closed s c rest).setEiPending _ _)
  setRun _ _ h := h.imp id ((cutShort_closed s c rest).setRun _ _)

/-- A read is a cycle, and whatever follows it is frozen. -/
theorem memRead_cutShort (a : Word) (h : SameBus s t ∨ CutShort s c rest t) : CutShort s c rest (t.memRead a).2 :=
  h.elim (cycle_cutShort he hc hl · fun _ _ => rfl) ((cutShort_closed s c rest).memRead _ a)

theorem fetchNext_cutShort (h : SameBus s t ∨ CutShort s c rest t) : CutShort s c rest t.fetchNext :=
  have hP := cutShort_closed s c rest
  hP.interruptCheck (hP.setPc _ _ (hP.setIr _ _ (memRead_cutShort he hc hl t.pc h)))

theorem haltWith_cutShort (hp : s.pending ≠ 0#8) (bug : Bool) : CutShort s c rest (s.haltWith bug) := by
  have hsame : SameBus s s := ⟨rfl, rfl, rfl, rfl⟩
  have hP := cutShort_closed s c rest
  rw [State.haltWith, if_pos hp]
  split
  · exact hP.interruptCheck (hP.setIr _ _ (memRead_cutShort he hc hl s.pc (.inl hsame)))
  · exact fetchNext_cutShort he hc hl (.inl hsame)

theorem stepHalted_cutShort : CutShort s c rest s.stepHalted := by
  unfold State.stepHalted
  split
  · exact fetchNext_cutShort (t := s.setRun .running) he hc hl (.inl ⟨rfl, rfl, rfl, rfl⟩)
  · exact cycle_cutShort (t := s) he hc hl ⟨rfl, rfl, rfl, rfl⟩ fun _ _ => rfl

/-- A Running step that spends a cycle is cut short in the first one. -/
theorem stepRunning_cutShort (hr : s.run = .running) (hcycles : 0 < s.stepCycles) (hp : s.ir = 0x76#8 → s.pending ≠ 0#8) :
    ∃ u, stepRunning s = .next u.settle ∧ CutShort s c rest u := by
  by_cases hi : s.ir = 0x76#8
  · exact ⟨_, stepRunning_of_noOperand (i := .halt) (by rw [hi]; rfl) (by rw [hi]; rfl) rfl (exec_halt s),
      haltWith_cutShort he hc hl (hp hi) _⟩
  · have hown : s.fetchInstr.1.ownFetch = false :=
      fetchInstr_ownFetch_eq_false hi fun h => Nat.ne_of_gt hcycles (stepCycles_eq_zero h)
    obtain ⟨u, hu, hstep⟩ | ⟨hhalt, -⟩ | ⟨r, hne, hstep⟩ :=
      stepRunning_ends (sameBus_or_cutShort_closed he hc hl) (.inl ⟨rfl, rfl, rfl, rfl⟩)
    · exact ⟨_, hstep, fetchNext_cutShort he hc hl hu⟩
    · exact absurd hhalt hi
    · have hsettle : (s.setRun r).settle = s.setRun r := by
        rw [State.settle, setRun_resetLine, hl]
        rfl
      exact absurd (stepRunning_run hr hown (hsettle ▸ hstep)) hne

theorem step_cutShort
    (h : s.run = .halted ∨ s.run = .running ∧ 0 < s.stepCycles ∧ (s.ir = 0x76#8 → s.pending ≠ 0#8)) :
    ∃ u, step s = .next u.settle ∧ CutShort s c rest u := by
  obtain hr | ⟨hr, hcycles, hp⟩ := h
  · exact ⟨_, step_halted hl hr, stepHalted_cutShort he hc hl⟩
  · rw [step_running hl hr]
    exact stepRunning_cutShort he hc hl hr hcycles hp

end

/-- Settles O23: a step that is not that of a stuck core ends in `State.settle` (`settle_of_spends`), a stuck core looks for the
reset in its script (`stuck_step_spends`), and the first cycle freezes the machine (`step_cutShort`). -/
theorem resetAbandonsWhateverRuns : Obligations.ResetAbandonsWhateverRuns := by
  unfold Obligations.ResetAbandonsWhateverRuns
  refine ⟨fun s hl => ⟨_, step_resetLine hl, applyReset_afterReset s, rfl, rfl, rfl⟩, fun s t h spent he hreset => ?_,
    fun s c rest hl he hc h => ?_⟩
  · have hl : s.resetLine = false := by
      refine Bool.eq_false_of_not_eq_true fun hl => ?_
      cases (step_resetLine hl).symm.trans h
      obtain ⟨c, hmem, -⟩ := hreset
      rw [List.self_eq_append_left.mp he] at hmem
      cases hmem
    by_cases hstuck : s.IsStuck
    · obtain ⟨hafter, hbefore, htrace, hmem⟩ := stuck_step_spends hl hstuck h he
      exact ⟨hafter, hbefore, [], htrace, (if_pos hstuck).symm, fun addr ha => .inl (hmem addr ha)⟩
    · obtain ⟨f, u, hf, hu, hstep⟩ := step_spends hl (running_or_halted_of_not_isStuck hstuck)
      cases hstep.symm.trans h
      obtain ⟨hafter, hbefore, cycles, htrace, hlen, hmem⟩ := settle_of_spends hf hu he hreset
      exact ⟨hafter, hbefore, cycles, htrace, hlen.trans (if_neg hstuck).symm, hmem⟩
  · obtain ⟨u, hstep, hcut⟩ := step_cutShort he hc hl h
    obtain ⟨k, htrace, hmem⟩ := hcut.spent
    have hsettle : u.settle = u.applyReset := if_pos hcut.line
    exact ⟨_, k, hstep.trans (congrArg _ hsettle), applyReset_afterReset u, hcut.env, htrace, hmem⟩

end Sys2Proof.Machine
end

section
/-! PROOFS. A store to IF or IE, and the interrupt check of its own step (R463). -/

namespace Sys2Proof.Machine

/-- The order of the bits as numbers is the order of the lines. -/
theorem lineBit_toNat_lt_iff (m n : Interrupt) : (lineBit m).toNat < (lineBit n).toNat ↔ lineIndex m < lineIndex n := by
  cases m <;> cases n <;> decide

theorem lineIndex_lt (n : Interrupt) : lineIndex n < 5 := by cases n <;> decide

/-- Of IE and IF a line's bit is what `pending()` keeps (R403). -/
theorem pending_and_lineBit (s : State) (n : Interrupt) :
    s.pending &&& lineBit n = s.readByte Config.ieAddr &&& s.readByte Config.ifAddr &&& lineBit n := by
  have hbit : 0x1F#8 &&& lineBit n = lineBit n := by cases n <;> rfl
  rw [State.pending, sideRead_eq, sideRead_eq, BitVec.and_assoc, hbit]

/-- The line with the lowest bit of those that are set in IE and in IF is the highest one (R403, R404). -/
theorem highest_eq_some_of_lineBit {s : State} {n : Interrupt}
    (hn : s.readByte Config.ieAddr &&& s.readByte Config.ifAddr &&& lineBit n ≠ 0#8)
    (hlow : ∀ m, (lineBit m).toNat < (lineBit n).toNat →
      s.readByte Config.ieAddr &&& s.readByte Config.ifAddr &&& lineBit m = 0#8) : s.highest = some n := by
  rw [← pending_and_lineBit] at hn
  refine (highest_eq_some_iff s n).mpr ⟨(and_lineBit_ne_zero_iff _ n).mp hn, fun j hj => ?_⟩
  have hlt : j < interruptOrder.length := hj.trans (lineIndex_lt n)
  have hj' := lineIndex_getElem_interruptOrder j hlt
  have hzero := hlow interruptOrder[j] ((lineBit_toNat_lt_iff _ n).mpr (by rwa [hj']))
  rw [← pending_and_lineBit] at hzero
  have hnot := mt (and_lineBit_ne_zero_iff _ _).mpr (not_not_intro hzero)
  rwa [hj', Bool.not_eq_true] at hnot

/-- LDH (a8),A over plain memory, up to the interrupt check that ends its step: its address byte is read, A is stored, the next
opcode is fetched (R321, R212). -/
theorem step_ldhAtA8A {s : State} (hs : s.Flat) (hr : s.run = .running) (hi : s.ir = 0xE0#8) :
    ∃ u : State, step s = .next u.interruptCheck ∧ u.ime = s.ime ∧ u.sp = s.sp ∧
      ∀ addr, u.readByte addr = if addr = highPage (s.readByte s.pc) then s.a else s.readByte addr := by
  have hn : operandCount s.ir = 1 := by rw [hi]; rfl
  have hfetched : s.fetchInstr = (.ldhAtA8A (s.readByte s.pc), s.imm8.2) := by
    rw [fetchInstr_of_byteImm hn, hi]
    rfl
  have ha : s.imm8.2.a = s.a := congrArg Regs.a (imm8_regs s)
  have hread := emits_imm8 hs.noReset
  have hstore := hread.trans (emits_memWrite (hread.noReset hs.noReset) (highPage (s.readByte s.pc)) s.a)
  have hfetch := hstore.trans (emits_fetchOpcode (hstore.noReset hs.noReset))
  have hregs : (s.imm8.2.memWrite (highPage (s.readByte s.pc)) s.a).regs = { s.regs with pc := s.pc + 1 } :=
    (memWrite_regs _ _ _).trans (imm8_regs s)
  refine ⟨(s.imm8.2.memWrite (highPage (s.readByte s.pc)) s.a).fetchOpcode, ?_, ?_, ?_, fun addr => ?_⟩
  · rw [step_running hs.1 hr, stepRunning_of_exec (by rw [hfetched]; rfl) (by rw [hfetched]; exact exec_ldhAtA8A _ _),
      hfetched, ha, postFetch_eq_fetchNext (hstore.noReset hs.noReset) rfl]
    rfl
  · exact (congrArg Regs.ime (fetchOpcode_regs _)).trans (congrArg Regs.ime hregs)
  · exact (congrArg Regs.sp (fetchOpcode_regs _)).trans (congrArg Regs.sp hregs)
  · exact hfetch.mem addr (hs.spares _ _)

/-- Settles O37: the check of the storing step reads the new byte (`step_ldhAtA8A`), and dispatches the highest line. -/
theorem storeToIfOrIeIsSeenAtItsOwnBoundary : Obligations.StoreToIfOrIeIsSeenAtItsOwnBoundary := by
  unfold Obligations.StoreToIfOrIeIsSeenAtItsOwnBoundary
  intro s n port other hs hr hime hi hports hpc hn hlow
  obtain ⟨u, hstep, huime, husp, hmem⟩ := step_ldhAtA8A hs hr hi
  have hboth : u.readByte Config.ieAddr &&& u.readByte Config.ifAddr = s.a &&& s.readByte other := by
    rw [hmem, hmem, hpc]
    obtain ⟨rfl, rfl⟩ | ⟨rfl, rfl⟩ := hports.imp Prod.mk.inj Prod.mk.inj
    · exact BitVec.and_comm _ _
    · rfl
  rw [← hboth] at hn hlow
  have hdispatch := interruptCheck_of_highest (huime.trans hime) (highest_eq_some_of_lineBit hn hlow)
  have hregs := dispatch_regs u n
  exact ⟨_, hstep.trans (congrArg _ hdispatch), congrArg Regs.pc hregs, congrArg Regs.ime hregs,
    (congrArg Regs.sp hregs).trans (congrArg (· - 2) husp)⟩

end Sys2Proof.Machine
end

section
/-! PROOFS. A pair pushed and popped into another (R456). -/

namespace Sys2Proof.Machine

theorem pushPair_eq (s : State) (p : Rp2) : s.pushPair p = s.idle.push16 (s.regs.rp2 p) := by
  rw [← getRp2_regs]
  rfl

/-- Settles O58: POP pops the word that PUSH pushed (`pop16_fst_of_pushCycles`) into the other pair, and SP is back where it
was. -/
theorem popAfterPushMovesThePair : Obligations.PopAfterPushMovesThePair := by
  unfold Obligations.PopAfterPushMovesThePair
  intro s p q hs
  have hregs := idle_push16_regs s (s.regs.rp2 p)
  have hsp : (s.idle.push16 (s.regs.rp2 p)).sp = s.sp - 2 := congrArg Regs.sp hregs
  have hpop := pop16_fst_of_pushCycles hs (emits_idle_push16 hs.noReset (s.regs.rp2 p)) hsp
  refine ⟨_, _, exec_push p s, exec_pop q _, ?_⟩
  rw [pushPair_eq, popPair_regs, hpop, hsp, hregs, Regs.withRp2_withSp, BitVec.sub_add_cancel]
  cases q <;> rfl

end Sys2Proof.Machine
end
